-- ==== Sys2Proof/Word.lean ====
section
/-! DEFINITION. The words of the supervisory port and the bytes of the field link. -/

namespace Sys2Proof

/-- One word of the supervisory port (section 11.1: the host clocks 16-bit words). -/
abbrev Word := BitVec 16

/-- One byte: half a word ("hi/lo" in section 11.5.1) or one data byte of the field link. -/
abbrev Byte := BitVec 8

/-- A piece id as a command carries it, two words, of which bits 15 to 8 of the first are not named (section 11.5.1). -/
abbrev IdBits := BitVec 24

/-- Location bytes 0, 1 and 2, byte 0 in the top eight bits (section 11.5.1). -/
abbrev LocBits := BitVec 24

end Sys2Proof
end

