-- ==== Sys2Proof/Config.lean ====
section
/-! DEFINITION. What the part fixes once (sizes, codes, limits) and the free values the spec leaves open. -/

namespace Sys2Proof.Config

/-- Live piece records the table holds at most (R1). -/
def maxPieces : Nat := 1024
/-- Record slots of the order table (R115). -/
def orderSlots : Nat := 128
/-- Casting beds B0 to B11. -/
def beds : Nat := 12
/-- Positions of a bed, 0 to 23. -/
def positions : Nat := 24
/-- Heat zones: bed zones 0 to 47 and ambient zones 48 to 51. -/
def zones : Nat := 52
/-- Bed heat zones, each with a heater output (R70). -/
def bedZones : Nat := 48
/-- Stock blocks K0 to K3. -/
def blocks : Nat := 4
/-- Load bays L0 to L3. -/
def bays : Nat := 4
/-- Cranes C0 to C3. -/
def cranes : Nat := 4
/-- Concrete mixes 0 to 15. -/
def mixes : Nat := 16
/-- Transfer programs P0 to P7. -/
def programs : Nat := 8
/-- Pieces and claims a load bay holds at most (R107). -/
def bayRoom : Nat := 16
/-- The ceiling of maturity (R58). -/
def maturityMax : Nat := 16777215
/-- Residual units in one maturity unit (R57). -/
def residualUnits : Nat := 720
/-- Values of the 32-bit counts: plant time, the creation counter (R116, R180). -/
def count32 : Nat := 4294967296
/-- Seconds a refused order waits before it may be offered again (R155). -/
def retryWait : Nat := 30
/-- Refusals that end an order (R155). -/
def maxAttempts : Nat := 3
/-- Piece ids one TAKE_ATTENTION returns at most (R190). -/
def attentionPieces : Nat := 400
/-- The fault code of a temperature field, minus 32768 (R49). -/
def faultCode : Word := 0x8000
/-- IDENT's part code and revision code (R191). -/
def partCode : Nat := 0x5A24
def revisionCode : Nat := 0x0100

/-- FREE VALUE (log 8). The bits of a response that its layout does not name, and the words of an absent field where no
rule says that they read 0: drawn with the State's counter `freeCount` and the data word's number. It has no body:
no statement can rest on what it is. -/
opaque freeWord : Nat → Nat → Word

/-- How many hand-overs one step may take at most. A step's chain of re-evaluations ends by itself (R124, log 13);
this bound only makes the recursion structural. -/
def chainBound : Nat := 1000000

end Sys2Proof.Config
end

