-- ==== Sys2Proof/Machine/Table.lean ====
section
/-! DEFINITION. The two shapes of table that State is made of: a sparse table kept as a key-sorted list of pairs, and a
fixed row of records addressed by number; and the sorted lists that stand for sets of numbers. -/

namespace Sys2Proof.Machine

/-- A sparse table: pairs in strictly rising order of key, one for each record that is present. -/
abbrev Table (α : Type) := List (Nat × α)

/-- The record under key `k`. -/
def tget {α : Type} : Table α → Nat → Option α
  | [], _ => none
  | (j, v) :: rest, k => if j = k then some v else tget rest k

/-- Write the record under key `k`, keeping the keys rising. -/
def tput {α : Type} : Table α → Nat → α → Table α
  | [], k, v => [(k, v)]
  | (j, u) :: rest, k, v =>
    if k < j then (k, v) :: (j, u) :: rest
    else if j = k then (k, v) :: rest
    else (j, u) :: tput rest k v

/-- Remove the record under key `k`. -/
def tdel {α : Type} : Table α → Nat → Table α
  | [], _ => []
  | (j, u) :: rest, k => if j = k then tdel rest k else (j, u) :: tdel rest k

/-- Change the record under key `k`, if there is one. -/
def tmod {α : Type} (t : Table α) (k : Nat) (f : α → α) : Table α :=
  match tget t k with
  | some v => tput t k (f v)
  | none => t

/-- Change every record. -/
def tmap {α : Type} (t : Table α) (f : Nat → α → α) : Table α := t.map fun e => (e.1, f e.1 e.2)

/-- Rising keys: every key is above the one given before it. -/
def risingFrom {α : Type} : Option Nat → Table α → Bool
  | _, [] => true
  | lo, (j, _) :: rest => lo.all (· < j) && risingFrom (some j) rest

/-- The one canonical form of a table: strictly rising keys. -/
def twf {α : Type} (t : Table α) : Bool := risingFrom none t

/-- Record `i` of a fixed row; the type's default where there is none. -/
def vget {α : Type} {n : Nat} [Inhabited α] (v : Vector α n) (i : Nat) : α := v[i]?.getD default

/-- Write record `i` of a fixed row; nothing where there is none. -/
def vset {α : Type} {n : Nat} (v : Vector α n) (i : Nat) (x : α) : Vector α n := v.setIfInBounds i x

/-- Change record `i` of a fixed row. -/
def vmod {α : Type} {n : Nat} [Inhabited α] (v : Vector α n) (i : Nat) (f : α → α) : Vector α n :=
  vset v i (f (vget v i))

/-- Enter a number in a set kept as a rising list. -/
def sinsert (k : Nat) : List Nat → List Nat
  | [] => [k]
  | j :: rest => if k < j then k :: j :: rest else if k = j then j :: rest else j :: sinsert k rest

/-- Take a number out of a set. -/
def serase (k : Nat) (l : List Nat) : List Nat := l.filter (· != k)

/-- Strictly rising: the canonical form of a set. -/
def srising : List Nat → Bool
  | a :: b :: rest => a < b && srising (b :: rest)
  | _ => true

/-- Insert into a list kept in ascending order of a measure, after the entries that are not greater (log 40). -/
def insertBy {α : Type} (f : α → Nat) (x : α) : List α → List α
  | [] => [x]
  | y :: rest => if f x < f y then x :: y :: rest else y :: insertBy f x rest

/-- Order a list by a measure, ascending; of equal entries the later one comes first. Where the measure is a sequence or a
rank and two live orders tie, that is the model's choice (DESIGN CHOICE, log 40). -/
def orderBy {α : Type} (f : α → Nat) (l : List α) : List α := l.foldr (insertBy f) []

end Sys2Proof.Machine
end

