-- ==== Sys2Proof/Syntax.lean ====
section
/-! DEFINITION. The commands and events of the PY24, one constructor for each row of spec/opcode_table.json.
Host commands carry the argument words, bytes and bit fields of section 11.5.3 undecoded wherever a code may name no
value of its field, so that the refusals of the owning rules can be given (R185). -/

namespace Sys2Proof

/-- The argument words of LOAD_MIX after the mix number (section 11.5.3, words 2 to 31). -/
structure MixArgs where
  t0 : Word
  tmax : Word
  limit : Word
  points : Vector (BitVec 24 × Word) 8
  strip : Word
  release : Word
  dispatch : Word
deriving DecidableEq, Repr

/-- The argument words of START_TRANSFER (section 11.5.3): mode byte with the mode in bit 4 and the block in bits 3 to 0. -/
structure TransferArgs where
  program : Byte
  bed : Byte
  first : Byte
  step : Byte
  count : Byte
  crane : Byte
  cls : Byte
  mode : Byte
  key : Word
  startRow : Byte
  startStack : Byte
  startTier : Byte
  n1 : Byte
  n2 : Byte
  stackStride : Byte
  rowStride : Word
deriving DecidableEq, Repr

/-- A CAN data or remote frame received without error (R193): an 11-bit or 29-bit identifier and up to eight data bytes. -/
structure CanFrame where
  extended : Bool
  remote : Bool
  ident : BitVec 29
  data : List Byte
deriving DecidableEq, Repr

/-- What a crane event carries beside its crane and code (section 8.4): order slot, order tag and reason byte. -/
structure CraneWord where
  slot : Byte
  tag : Byte
  reason : Byte
deriving DecidableEq, Repr

/-- One constructor for each row of spec/opcode_table.json; the map to the table's mnemonics is LAWS.json. -/
inductive Instr where
  -- the part as a whole
  | ident
  | setTime (time : BitVec 32)
  | setMode (mode : Word)
  | takeAttention
  | linkSetup (rate : Word)
  /-- A PURGE frame whose scope word is not ORDERS: ALL, or a word that names no scope (log 24). -/
  | purgeAll (scope : Word)
  | purgeOrders
  -- mixes
  | loadMix (mix : Word) (args : MixArgs)
  | readMix (mix : Word)
  -- beds
  | setBed (bed kind : Byte) (positions zones : Word) (map : BitVec 48)
  | declare (bed position : Byte) (id : IdBits) (mark : Word) (mix footprint : Byte)
  | cast (bed : Word)
  | detensioned (bed : Word)
  | bedStatus (bed : Word)
  | clearBed (bed : Word)
  -- heat
  | setProfile (bed preset ramp peak hold cool finish : Word)
  | zoneSetup (zone gap gain cap mode : Word)
  | zoneStatus (zone : Word)
  -- pieces
  | getPiece (id : IdBits)
  | findAt (loc : LocBits)
  | amendPiece (id : IdBits) (flags mark mix footprint : Word)
  | scrapPiece (id : IdBits)
  | retirePiece (id : IdBits)
  | holdPiece (id : IdBits)
  | unholdPiece (id : IdBits)
  | releasePiece (id : IdBits)
  -- stock
  | defineBlock (block rows perRow tiers : Word)
  | readRow (block row : Byte)
  | findSlot (block footprint : Byte)
  | slotOut (loc : LocBits)
  | slotIn (loc : LocBits)
  | queryEmptyBed (bed : BitVec 4)
  | queryEmptyBlock (block : BitVec 4) (first last : Byte)
  -- orders
  | orderMove (id : IdBits) (dest : LocBits) (cls crane : Byte) (key : Word)
  | orderDispatch (id : IdBits) (bay : Word) (cls crane : Byte) (key : Word)
  | setClass (handle cls key : Word)
  | cancelOrder (handle : Word)
  | orderStatus (handle : Word)
  | closeOrder (handle : Word)
  -- transfer programs
  | startTransfer (args : TransferArgs)
  | stopTransfer (program : Word)
  | resumeTransfer (program : Word)
  | transferStatus (program : Word)
  -- cranes
  | craneSetup (crane beds areas limit table : Word)
  | craneStatus (crane : Word)
  /-- A CONFIRM_LIFT frame whose outcome word is neither AT_DESTINATION nor LOST: AT_SOURCE, or a word that names no
  outcome (log 24). -/
  | confirmLiftAtSource (handle outcome : Word)
  | confirmLiftAtDestination (handle : Word)
  | confirmLiftLost (handle : Word)
  -- the supervisory port
  | unknownKind (header : Word)
  | badLength (header : Word)
  | selRise
  | overrun
  -- arrivals from the field link
  | sample (zone : Fin 52) (value : Word)
  | ready (crane : Fin 4) (e : CraneWord)
  | accept (crane : Fin 4) (e : CraneWord)
  | refuse (crane : Fin 4) (e : CraneWord)
  | hooked (crane : Fin 4) (e : CraneWord)
  | landed (crane : Fin 4) (e : CraneWord)
  | fault (crane : Fin 4) (e : CraneWord)
  -- ticks
  | tick
  | plantMinute
  | presetEnd (bed : Fin 12)
  | holdLimit (bed : Fin 12)
  | stale (zone : Fin 52)
  | acceptExpiry (crane : Fin 4)
  | liftLimitExpiry (crane : Fin 4)
  | retryWaitEnd (slot : Fin 128)
  -- the yard stop
  | yardStopAsserted
  | yardStopReleased
  -- the field link
  | frameReceived (frame : CanFrame)
  | transmitAcknowledged
  | transmissionFailed
  | busOff
  | busRejoin
  | linkUp
  -- the heater line and the resets
  | heaterLatch
  | powerOnReset
  | warmReset
  -- words on the supervisory port
  | frameWord (word : Word)
  | responseWord
  | selFall
deriving DecidableEq, Repr

end Sys2Proof
end

