-- ==== Sys2Proof/Machine/State.lean ====
section
/-! DEFINITION. The state of the PY24: every record of its twelve blocks, the queue of commands waiting, and the value
of each after a power-on reset. -/

namespace Sys2Proof.Machine

/-- No meaning faults: the manual describes nothing that stops the part (INVENTORY.md, Faults). -/
inductive Fault where
deriving DecidableEq, Repr

/-- Why the model gives a command no meaning. -/
inductive Refusal where
  /-- Raised by an arm of `exec` whose row has no meaning yet. Safe: the model stops where the part goes on. No arm raises it. -/
  | notModelled (mnemonic : String)
deriving DecidableEq, Repr

/-- An order slot 0 to 127 paired with an 8-bit tag (section 6.2 of the Introduction). -/
structure Handle where
  slot : Nat
  tag : Nat
deriving DecidableEq, Repr, Inhabited

/-- A location (section 6.3 of the Introduction). -/
inductive Loc where
  | none
  | bed (bed position : Nat)
  | hook (crane : Nat)
  | stock (block row stack tier : Nat)
  | bay (bay : Nat)
deriving DecidableEq, Repr, Inhabited

/-! ### The piece register (chapter 1) -/

/-- Stage of a piece (R7). -/
inductive Stage where
  | declared | curing | liftable
deriving DecidableEq, Repr, Inhabited

/-- Cause of a hold (section 9.1). -/
inductive HoldCause where
  | host | overheat
deriving DecidableEq, Repr, Inhabited

/-- Quality of a piece, with the hold cause that is present only while HELD (R165). -/
inductive Quality where
  | opened | held (cause : HoldCause) | released
deriving DecidableEq, Repr, Inhabited

/-- One record of the Piece Table (section 1.1); its id is its key. -/
structure Piece where
  mark : Nat := 0
  mix : Nat := 0
  footprint : Nat := 0
  homeBed : Nat := 0
  homePos : Nat := 0
  stage : Stage := .declared
  loc : Loc := .none
  uncertain : Bool := false
  quality : Quality := .opened
  waived : Bool := false
  castTime : Option Nat := Option.none
  creditStart : Option Nat := Option.none
  maturity : Nat := 0
  residual : Nat := 0
  strength : Nat := 0
  gateStrip : Bool := false
  gateRelease : Bool := false
  gateDispatch : Bool := false
  overheat : Nat := 0
  order : Option Handle := Option.none
  releaseTime : Option Nat := Option.none
deriving DecidableEq, Repr, Inhabited

/-! ### Mixes (chapter 3) -/

/-- One record of the Mix Table (section 3.1): temperatures in 0.1 °C, curve points (maturity, strength). -/
structure Mix where
  loaded : Bool := false
  inUse : Nat := 0
  t0 : Int := 0
  tmax : Int := 0
  limit : Nat := 0
  curve : Vector (Nat × Nat) 8 := Vector.replicate 8 (0, 0)
  strip : Nat := 0
  release : Nat := 0
  dispatch : Nat := 0
deriving DecidableEq, Repr, Inhabited

/-! ### Beds (chapter 2) -/

inductive BedKind where
  | form | prestress
deriving DecidableEq, Repr, Inhabited

/-- State of a bed (section 2.3); `opened` is the manual's OPEN. -/
inductive BedState where
  | free | set | curing | releaseReady | opened
deriving DecidableEq, Repr, Inhabited

/-- A position entry (section 2.2); an open VACATED entry names the order that vacated it (R27). -/
inductive Entry where
  | empty
  | declared (piece : Nat)
  | cast (piece : Nat)
  | void
  | vacated (openBy : Option Handle)
deriving DecidableEq, Repr, Inhabited

/-- Heat phase of a bed (section 4.4). -/
inductive Phase where
  | off | preset | ramp | hold | cool | done
deriving DecidableEq, Repr, Inhabited

/-- Heat profile of a bed (section 4.4), with its power-on values. -/
structure Profile where
  preset : Nat := 0
  ramp : Nat := 350
  peak : Int := -400
  hold : Nat := 0
  cool : Nat := 350
  finish : Int := -400
deriving DecidableEq, Repr, Inhabited

/-- One bed record (section 2.1), with its power-on values (R42, R91). -/
structure Bed where
  kind : BedKind := .form
  positions : Nat := 1
  zoneCount : Nat := 1
  zoneMap : Vector Nat 24 := Vector.replicate 24 0
  state : BedState := .free
  cap : Option Int := Option.none
  notYet : Nat := 0
  entries : Vector Entry 24 := Vector.replicate 24 .empty
  profile : Profile := {}
  phase : Phase := .off
  phaseMinutes : Nat := 0
deriving DecidableEq, Repr, Inhabited

/-! ### Heat zones (chapter 4) -/

inductive ZoneState where
  | idle | arming | live | holding | failed | stale
deriving DecidableEq, Repr, Inhabited

/-- What every zone record holds (section 4.1), with its power-on values. -/
structure Zone where
  state : ZoneState := .idle
  lastGood : Int := 0
  lastArrival : Nat := 0
  faultRun : Nat := 0
  gap : Nat := 300
deriving DecidableEq, Repr, Inhabited

inductive HeaterMode where
  | spread | block
deriving DecidableEq, Repr, Inhabited

/-- What a bed zone's record holds beside (section 4.1), with its power-on values. -/
structure Heater where
  gain : Nat := 8
  dutyCap : Nat := 1023
  mode : HeaterMode := .spread
  setpoint : Option Int := Option.none
  carry : Nat := 0
  accumulator : Nat := 0
  window : Nat := 0
  onLeft : Nat := 0
  duty : Nat := 0
  output : Bool := false
deriving DecidableEq, Repr, Inhabited

/-- The heater line (R197): the set of outputs being shifted, if any, the set the contactor chain holds, and whether the
line has had its first tick's slot since the last reset (log 37). -/
structure HeaterLine where
  shifting : Option (Vector Bool 48) := some (Vector.replicate 48 false)
  chain : Vector Bool 48 := Vector.replicate 48 false
  ticked : Bool := false
deriving DecidableEq, Repr

/-! ### Stock (chapter 5) -/

/-- The cell of a slot that is not FREE (R94): the table of a block lists no FREE slot. -/
inductive Cell where
  | reserved (handle : Handle)
  | occupied (piece : Nat)
  | out
deriving DecidableEq, Repr, Inhabited

/-- One stock block (section 5.1): the slots that are not FREE by slot key, the footprints present by stack key, and
the closed stacks by stack key. -/
structure Block where
  defined : Bool := false
  rows : Nat := 0
  perRow : Nat := 0
  tiers : Nat := 0
  slots : Table Cell := []
  footprints : Table Nat := []
  closed : List Nat := []
deriving DecidableEq, Repr, Inhabited

/-- One load bay (R107): the count of pieces and claims, and the ids of its pieces. -/
structure Bay where
  count : Nat := 0
  pieces : List Nat := []
deriving DecidableEq, Repr, Inhabited

/-! ### Orders (chapter 6) -/

inductive OrderKind where
  | move | dispatch | rehandle
deriving DecidableEq, Repr, Inhabited

inductive Origin where
  | host | program (n : Nat) | rehandle (parent : Handle)
deriving DecidableEq, Repr, Inhabited

/-- A destination (section 6.1); AUTO may exclude one row and stack. -/
inductive Dest where
  | auto (block : Nat) (excluded : Option (Nat × Nat))
  | slot (block row stack tier : Nat)
  | bay (bay : Nat)
deriving DecidableEq, Repr, Inhabited

inductive WaitReason where
  | notLiftable | buried | digBlocked | noSlot | bayFull | base
deriving DecidableEq, Repr, Inhabited

/-- State of an order, with the wait reason that is present only while WAITING (section 6.1). -/
inductive OrderState where
  | parked | waiting (reason : WaitReason) | queued | offered | working | unresolved | done | failed | cancelled
deriving DecidableEq, Repr, Inhabited

inductive OrderOutcome where
  | normal | late | confirmed | refusedOut | stopped | lost | byHost
deriving DecidableEq, Repr, Inhabited

/-- One order record (section 6.1); its slot is its key. `source` is written at selection and at an ending: before
selection the source is read from the piece's location (R130, R135). -/
structure Order where
  tag : Nat
  sequence : Nat
  kind : OrderKind
  origin : Origin
  piece : Nat
  cls : Nat
  key : Nat
  crane : Nat
  source : Loc := .none
  dest : Dest
  reserved : Option Loc := Option.none
  state : OrderState := .parked
  attempts : Nat := 0
  retry : Option Nat := Option.none
  outcome : Option OrderOutcome := Option.none
deriving DecidableEq, Repr, Inhabited

/-! ### Transfer programs (chapter 7) -/

inductive FaultReason where
  | slot | order
deriving DecidableEq, Repr, Inhabited

/-- State of a program, with the fault reason that is present only in FAULT (section 7.1). -/
inductive ProgramState where
  | idle | running | stopping | fault (reason : FaultReason) | done
deriving DecidableEq, Repr, Inhabited

/-- The figures of a STACKED pattern (R140). -/
structure Pattern where
  startRow : Nat
  startStack : Nat
  startTier : Nat
  n1 : Nat
  n2 : Nat
  stackStride : Nat
  rowStride : Nat
deriving DecidableEq, Repr, Inhabited

/-- One program record (section 7.1), with its power-on values (R147). `backwards` is the step −1. -/
structure Program where
  state : ProgramState := .idle
  doneFlag : Bool := false
  bed : Nat := 0
  first : Nat := 0
  backwards : Bool := false
  count : Nat := 1
  crane : Nat := 0
  cls : Nat := 1
  key : Nat := 0
  block : Nat := 0
  pattern : Option Pattern := Option.none
  item : Nat := 0
  placed : Nat := 0
  skipped : Nat := 0
  order : Option Handle := Option.none
deriving DecidableEq, Repr, Inhabited

/-! ### Cranes and modes (chapters 8 and 10) -/

inductive CraneMode where
  | run | hold | stop
deriving DecidableEq, Repr, Inhabited

inductive CraneState where
  | offline | idle | offered | working | held | stopped
deriving DecidableEq, Repr, Inhabited

inductive PlantMode where
  | production | cureOnly | standby
deriving DecidableEq, Repr, Inhabited

/-- The set of areas a crane serves (R148), bit b for bed, block or bay b. -/
structure Reach where
  beds : BitVec 12 := 0
  blocks : BitVec 4 := 0
  bays : BitVec 4 := 0
deriving DecidableEq, Repr, Inhabited

/-- A crane's mode for each plant mode (section 8.1). -/
structure ModeTable where
  production : CraneMode := .run
  cureOnly : CraneMode := .hold
  standby : CraneMode := .stop
deriving DecidableEq, Repr, Inhabited

/-- One crane record (section 8.1), with its power-on values. -/
structure Crane where
  state : CraneState := .offline
  reach : Reach := {}
  limit : Nat := 900
  modes : ModeTable := {}
  order : Option Handle := Option.none
  acceptTimer : Nat := 0
  resent : Bool := false
  liftTimer : Nat := 0
  hooked : Bool := false
  lastReason : Nat := 0
  hookCell : List Nat := []
deriving DecidableEq, Repr, Inhabited

/-! ### The ports (chapter 11) -/

inductive PortState where
  | idle | receiving | executing | responding
deriving DecidableEq, Repr, Inhabited

/-- The supervisory port (section 11.1). `frame` holds the words of the frame being received or executed, `response`
the words still to be shifted out, `sdo` the last word shifted out, and `carried` the frame that was EXECUTING at a
warm reset, whose response is discarded (R188). -/
structure Port where
  state : PortState := .idle
  frame : List Word := []
  response : List Word := []
  overrun : Bool := false
  selLow : Bool := false
  sdo : Word := 0
  carried : Option (List Word) := Option.none
deriving DecidableEq, Repr

/-- The six attention sets (R189); a member of the order set carries its handle's tag. -/
structure Attention where
  beds : List Nat := []
  zones : List Nat := []
  pieces : List Nat := []
  orders : Table Nat := []
  programs : List Nat := []
  cranes : List Nat := []
deriving DecidableEq, Repr

inductive LinkState where
  | off | up | down
deriving DecidableEq, Repr, Inhabited

inductive LinkRate where
  | r125 | r250 | r500
deriving DecidableEq, Repr, Inhabited

/-- What a DOWN link waits for: eleven recessive bits after a start (R192), or 128 runs of them after bus-off (R196). -/
inductive LinkWait where
  | starting | busOff
deriving DecidableEq, Repr, Inhabited

/-- A LIFT instruction (R153). -/
structure Lift where
  slot : Nat
  tag : Nat
  source : Loc
  dest : Loc
deriving DecidableEq, Repr, Inhabited

/-- A message of the part: a crane's control message or LIFT instruction (section 11.3). -/
inductive TxMessage where
  | control (crane : Nat) (mode : CraneMode)
  | lift (crane : Nat) (lift : Lift)
deriving DecidableEq, Repr, Inhabited

/-- One crane's control slot and instruction slot (R194). -/
structure TxSlots where
  control : Option CraneMode := Option.none
  lift : Option Lift := Option.none
deriving DecidableEq, Repr, Inhabited

/-- The field link controller (section 11.3). `onBus` is the message the transmitter is sending, with `stale` set once
its slot has been replaced or withdrawn under it (R194). -/
structure Link where
  state : LinkState := .off
  rate : LinkRate := .r250
  wait : LinkWait := .starting
  slots : Vector TxSlots 4 := Vector.replicate 4 {}
  onBus : Option (TxMessage × Bool) := Option.none
deriving DecidableEq, Repr

/-! ### The whole -/

/-- The state of the PY24. -/
structure State where
  pieces : Table Piece := []
  mixes : Vector Mix 16 := Vector.replicate 16 {}
  beds : Vector Bed 12 := Vector.replicate 12 {}
  zones : Vector Zone 52 := Vector.replicate 52 {}
  heaters : Vector Heater 48 := Vector.replicate 48 {}
  line : HeaterLine := {}
  blocks : Vector Block 4 := Vector.replicate 4 {}
  bays : Vector Bay 4 := Vector.replicate 4 {}
  tags : Vector Nat 128 := Vector.replicate 128 0
  counter : Nat := 0
  orders : Table Order := []
  programs : Vector Program 8 := Vector.replicate 8 {}
  cranes : Vector Crane 4 := Vector.replicate 4 {}
  mode : PlantMode := .standby
  yardStop : Bool := false
  time : Nat := 0
  minute : Nat := 0
  port : Port := {}
  attn : Attention := {}
  link : Link := {}
  /-- The model's own: how many values the model has left free so far (log 8). -/
  freeCount : Nat := 0
  /-- The commands and events waiting, first in, first out (log 5). -/
  pending : List Instr := []
deriving DecidableEq, Repr

/-- The part after a power-on reset (R21, R42, R45, R91, R114, R136, R147, R164, R183, R188, R192, R197). -/
def State.reset : State := {}

end Sys2Proof.Machine
end

