-- ==== Sys2Proof/Machine/Flags.lean ====
section
/-! DEFINITION. The flags the outside sees without a command: the six attention sets (R189), the ATTN and RDY lines. -/

namespace Sys2Proof.Machine

/-- Enter a bed in its attention set (R41). -/
def State.noteBed (b : Nat) (s : State) : State := { s with attn := { s.attn with beds := sinsert b s.attn.beds } }

/-- Enter a zone in its attention set (R78). -/
def State.noteZone (z : Nat) (s : State) : State := { s with attn := { s.attn with zones := sinsert z s.attn.zones } }

/-- Enter a piece id in its attention set (R67). -/
def State.notePiece (id : Nat) (s : State) : State :=
  { s with attn := { s.attn with pieces := sinsert id s.attn.pieces } }

/-- Enter an order slot in its attention set with its handle's tag; a newer ending replaces the tag (R189). -/
def State.noteOrder (h : Handle) (s : State) : State :=
  { s with attn := { s.attn with orders := tput s.attn.orders h.slot h.tag } }

/-- Enter a program in its attention set (R146). -/
def State.noteProgram (n : Nat) (s : State) : State :=
  { s with attn := { s.attn with programs := sinsert n s.attn.programs } }

/-- Enter a crane in its attention set (R189). -/
def State.noteCrane (c : Nat) (s : State) : State :=
  { s with attn := { s.attn with cranes := sinsert c s.attn.cranes } }

/-- The ATTN line: asserted while any attention set has a member (R189). -/
def State.attnLine (s : State) : Bool :=
  !(s.attn.beds.isEmpty && s.attn.zones.isEmpty && s.attn.pieces.isEmpty && s.attn.orders.isEmpty
    && s.attn.programs.isEmpty && s.attn.cranes.isEmpty)

/-- The RDY line: asserted in RESPONDING (section 11.1). -/
def State.rdyLine (s : State) : Bool := s.port.state == .responding

end Sys2Proof.Machine
end

