-- ==== Sys2Proof/Decode.lean ====
section
/-! DEFINITION. The frames of the supervisory port (R184, R185, section 11.5.3): the kind and length a header names, the
fixed length of each command, and the command a complete frame spells. The opcode table gives its rows no bits, so no
table word spells a command (log 25). -/

namespace Sys2Proof

/-- The kind a frame header names: its bits 15 to 10 (R184). -/
def headerKind (header : Word) : Nat := header.toNat / 1024

/-- The total length in words a frame header names: its bits 9 to 0 (R184). -/
def headerLength (header : Word) : Nat := header.toNat % 1024

/-- The fixed length of the command of a kind, header included; none where the kind names no command (section 11.5.3). -/
def commandLength : Nat → Option Nat
  | 0x01 => some 1
  | 0x02 => some 3
  | 0x03 => some 2
  | 0x04 => some 1
  | 0x05 => some 2
  | 0x06 => some 2
  | 0x08 => some 32
  | 0x09 => some 2
  | 0x0C => some 7
  | 0x0D => some 6
  | 0x0E => some 2
  | 0x0F => some 2
  | 0x10 => some 2
  | 0x11 => some 2
  | 0x14 => some 8
  | 0x15 => some 6
  | 0x16 => some 2
  | 0x18 => some 3
  | 0x19 => some 3
  | 0x1A => some 7
  | 0x1B => some 3
  | 0x1C => some 3
  | 0x1E => some 3
  | 0x1F => some 3
  | 0x20 => some 3
  | 0x22 => some 5
  | 0x23 => some 2
  | 0x24 => some 2
  | 0x25 => some 3
  | 0x26 => some 3
  | 0x27 => some 3
  | 0x28 => some 7
  | 0x29 => some 6
  | 0x2A => some 4
  | 0x2B => some 2
  | 0x2C => some 2
  | 0x2D => some 2
  | 0x30 => some 10
  | 0x31 => some 2
  | 0x32 => some 2
  | 0x33 => some 2
  | 0x36 => some 6
  | 0x37 => some 2
  | 0x38 => some 3
  | _ => none

/-- What validation makes of a frame's header (R184, R185): answered at once or once complete, or handed on. -/
inductive FrameCheck where
  | unknownKind | badLength | handOn
deriving DecidableEq, Repr

/-- Validation of a complete frame by its header (R184, R185): a length of 0 is answered before the kind is looked at. -/
def frameCheck (header : Word) : FrameCheck :=
  if headerLength header = 0 then .badLength
  else match commandLength (headerKind header) with
    | none => .unknownKind
    | some n => if headerLength header = n then .handOn else .badLength

/-- The high byte of a word ("hi" of section 11.5.1). -/
def hiByte (w : Word) : Byte := w.extractLsb' 8 8
/-- The low byte of a word ("lo" of section 11.5.1). -/
def loByte (w : Word) : Byte := w.extractLsb' 0 8

/-- Argument word `i` of a frame, numbered from 1 (section 11.5.3). -/
def argWord (args : List Word) (i : Nat) : Word := args.getD (i - 1) 0

/-- A piece id in argument words `i` and `i + 1` (section 11.5.1). -/
def argId (args : List Word) (i : Nat) : IdBits := loByte (argWord args i) ++ argWord args (i + 1)

/-- A location in argument words `i` and `i + 1` (section 11.5.1). -/
def argLoc (args : List Word) (i : Nat) : LocBits := argWord args i ++ hiByte (argWord args (i + 1))

/-- Curve point `i` of LOAD_MIX: argument words 5 + 3i to 7 + 3i (section 11.5.3). -/
def argPoint (args : List Word) (i : Nat) : BitVec 24 × Word :=
  (argId args (5 + 3 * i), argWord args (7 + 3 * i))

/-- The argument words of LOAD_MIX from word 2 on (section 11.5.3). -/
def argMix (args : List Word) : MixArgs where
  t0 := argWord args 2
  tmax := argWord args 3
  limit := argWord args 4
  points := #v[argPoint args 0, argPoint args 1, argPoint args 2, argPoint args 3,
    argPoint args 4, argPoint args 5, argPoint args 6, argPoint args 7]
  strip := argWord args 29
  release := argWord args 30
  dispatch := argWord args 31

/-- The argument words of START_TRANSFER (section 11.5.3). -/
def argTransfer (args : List Word) : TransferArgs where
  program := hiByte (argWord args 1)
  bed := loByte (argWord args 1)
  first := hiByte (argWord args 2)
  step := loByte (argWord args 2)
  count := hiByte (argWord args 3)
  crane := loByte (argWord args 3)
  cls := hiByte (argWord args 4)
  mode := loByte (argWord args 4)
  key := argWord args 5
  startRow := hiByte (argWord args 6)
  startStack := loByte (argWord args 6)
  startTier := hiByte (argWord args 7)
  n1 := loByte (argWord args 7)
  n2 := hiByte (argWord args 8)
  stackStride := loByte (argWord args 8)
  rowStride := argWord args 9

/-- The command of a kind with its argument words (section 11.5.3); none where the kind names no command. -/
def decodeArgs (kind : Nat) (a : List Word) : Option Instr :=
  match kind with
  | 0x01 => some .ident
  | 0x02 => some (.setTime (argWord a 1 ++ argWord a 2))
  | 0x03 => some (.setMode (argWord a 1))
  | 0x04 => some .takeAttention
  | 0x05 => some (.linkSetup (argWord a 1))
  | 0x06 => some (if argWord a 1 = 2 then .purgeOrders else .purgeAll (argWord a 1))
  | 0x08 => some (.loadMix (argWord a 1) (argMix a))
  | 0x09 => some (.readMix (argWord a 1))
  | 0x0C => some (.setBed (hiByte (argWord a 1)) (loByte (argWord a 1)) (argWord a 2) (argWord a 3)
      (argWord a 6 ++ (argWord a 5 ++ argWord a 4)))
  | 0x0D => some (.declare (hiByte (argWord a 1)) (loByte (argWord a 1)) (argId a 2) (argWord a 4)
      (hiByte (argWord a 5)) (loByte (argWord a 5)))
  | 0x0E => some (.cast (argWord a 1))
  | 0x0F => some (.detensioned (argWord a 1))
  | 0x10 => some (.bedStatus (argWord a 1))
  | 0x11 => some (.clearBed (argWord a 1))
  | 0x14 => some (.setProfile (argWord a 1) (argWord a 2) (argWord a 3) (argWord a 4) (argWord a 5) (argWord a 6)
      (argWord a 7))
  | 0x15 => some (.zoneSetup (argWord a 1) (argWord a 2) (argWord a 3) (argWord a 4) (argWord a 5))
  | 0x16 => some (.zoneStatus (argWord a 1))
  | 0x18 => some (.getPiece (argId a 1))
  | 0x19 => some (.findAt (argLoc a 1))
  | 0x1A => some (.amendPiece (argId a 1) (argWord a 3) (argWord a 4) (argWord a 5) (argWord a 6))
  | 0x1B => some (.scrapPiece (argId a 1))
  | 0x1C => some (.retirePiece (argId a 1))
  | 0x1E => some (.holdPiece (argId a 1))
  | 0x1F => some (.unholdPiece (argId a 1))
  | 0x20 => some (.releasePiece (argId a 1))
  | 0x22 => some (.defineBlock (argWord a 1) (argWord a 2) (argWord a 3) (argWord a 4))
  | 0x23 => some (.readRow (hiByte (argWord a 1)) (loByte (argWord a 1)))
  | 0x24 => some (.findSlot (hiByte (argWord a 1)) (loByte (argWord a 1)))
  | 0x25 => some (.slotOut (argLoc a 1))
  | 0x26 => some (.slotIn (argLoc a 1))
  | 0x27 =>
    if (argWord a 1).getLsbD 15 then
      some (.queryEmptyBlock ((argWord a 1).extractLsb' 0 4) (hiByte (argWord a 2)) (loByte (argWord a 2)))
    else some (.queryEmptyBed ((argWord a 1).extractLsb' 0 4))
  | 0x28 => some (.orderMove (argId a 1) (argLoc a 3) (hiByte (argWord a 5)) (loByte (argWord a 5)) (argWord a 6))
  | 0x29 => some (.orderDispatch (argId a 1) (argWord a 3) (hiByte (argWord a 4)) (loByte (argWord a 4)) (argWord a 5))
  | 0x2A => some (.setClass (argWord a 1) (argWord a 2) (argWord a 3))
  | 0x2B => some (.cancelOrder (argWord a 1))
  | 0x2C => some (.orderStatus (argWord a 1))
  | 0x2D => some (.closeOrder (argWord a 1))
  | 0x30 => some (.startTransfer (argTransfer a))
  | 0x31 => some (.stopTransfer (argWord a 1))
  | 0x32 => some (.resumeTransfer (argWord a 1))
  | 0x33 => some (.transferStatus (argWord a 1))
  | 0x36 => some (.craneSetup (argWord a 1) (argWord a 2) (argWord a 3) (argWord a 4) (argWord a 5))
  | 0x37 => some (.craneStatus (argWord a 1))
  | 0x38 =>
    some (if argWord a 2 = 2 then .confirmLiftAtDestination (argWord a 1)
      else if argWord a 2 = 3 then .confirmLiftLost (argWord a 1)
      else .confirmLiftAtSource (argWord a 1) (argWord a 2))
  | _ => none

/-- The command that a complete frame, header first, spells (R185): none where validation does not hand it on. -/
def decodeFrame : List Word → Option Instr
  | [] => none
  | header :: args =>
    if frameCheck header = .handOn ∧ args.length + 1 = headerLength header then decodeArgs (headerKind header) args
    else none

/-- The command a word of the opcode table spells. The table gives none of its rows any bits (98_reader.md:
n_rows_with_fixed 0, n_rows_with_fields 0), so no word spells one (log 25). -/
def decodeTableWord (_nbits _w : Nat) : Option Instr := none

end Sys2Proof
end

