-- ==== Sys2Proof/Machine/Operands.lean ====
section
/-! DEFINITION. Reading command operands and writing response words: the codes of section 11.5.2, the locations of
section 11.5.1, and data words of which only the named bits are the part's (log 8). -/

namespace Sys2Proof.Machine

/-! ### Reasons and replies -/

/-- The reason codes (section 11.5.2). -/
inductive Reason where
  | none | unknownKind | badLength | range | notFound | staleHandle | wrongState | tableFull | noSlot | locked
  | occupied | notReachable | mode | duplicate | inUse | buried | strength
deriving DecidableEq, Repr, Inhabited

def Reason.code : Reason → Nat
  | .none => 0
  | .unknownKind => 1
  | .badLength => 2
  | .range => 3
  | .notFound => 4
  | .staleHandle => 5
  | .wrongState => 6
  | .tableFull => 7
  | .noSlot => 8
  | .locked => 9
  | .occupied => 10
  | .notReachable => 11
  | .mode => 12
  | .duplicate => 13
  | .inUse => 14
  | .buried => 15
  | .strength => 16

/-- A data word of a response: its value and the bits its layout names. The other bits are free (log 8). -/
structure DataWord where
  value : Word
  named : Word
deriving DecidableEq, Repr, Inhabited

/-- What a block answers to a command (section 6.6 of the Introduction): DONE with its data words, FAILED with a
reason, or the port's own UNKNOWN (R185). -/
inductive Reply where
  | done (data : List DataWord)
  | failed (reason : Reason)
  | unknown
deriving DecidableEq, Repr, Inhabited

/-- The bit of a flag. -/
def bit (b : Bool) : Nat := if b then 1 else 0

/-- A data word of fields, each given as (lowest bit, width, value). -/
def packed (fields : List (Nat × Nat × Nat)) : DataWord where
  value := BitVec.ofNat 16 (fields.foldl (fun acc f => acc + (f.2.2 % 2 ^ f.2.1) * 2 ^ f.1) 0)
  named := BitVec.ofNat 16 (fields.foldl (fun acc f => acc + (2 ^ f.2.1 - 1) * 2 ^ f.1) 0)

/-- A data word that one number fills. -/
def fullWord (n : Nat) : DataWord := ⟨BitVec.ofNat 16 n, 0xFFFF⟩
/-- A data word of two bytes, "hi/lo" (section 11.5.1). -/
def byteWord (hi lo : Nat) : DataWord := packed [(8, 8, hi), (0, 8, lo)]
/-- A temperature word: two's complement (section 11.5.1). -/
def tempWord (t : Int) : DataWord := ⟨BitVec.ofInt 16 t, 0xFFFF⟩
/-- The word of an absent field: all of it free (log 8). -/
def absentWord : DataWord := ⟨0, 0⟩
/-- The two words of a plant time or sequence (section 11.5.1). -/
def longWords (n : Nat) : List DataWord := [fullWord (n / 65536), fullWord n]
/-- The two words of a piece id or a maturity (section 11.5.1). -/
def idWords (n : Nat) : List DataWord := [packed [(0, 8, n / 65536)], fullWord n]
/-- A handle: slot hi, tag lo (section 11.5.1). -/
def handleWord (h : Handle) : DataWord := byteWord h.slot h.tag
/-- A handle that may be absent. -/
def handleWord? : Option Handle → DataWord
  | some h => handleWord h
  | none => absentWord
/-- A word that reads 0 when its field is absent: GET_PIECE's rule (R12). -/
def zeroHandleWord : Option Handle → DataWord
  | some h => handleWord h
  | none => fullWord 0

/-- The two words of a location (section 11.5.1). -/
def locWords : Loc → List DataWord
  | .none => [byteWord 0 0, packed [(8, 8, 0)]]
  | .bed b p => [byteWord (1 * 32 + b) p, packed [(8, 8, 0)]]
  | .hook c => [byteWord (2 * 32 + c) 0, packed [(8, 8, 0)]]
  | .stock k r st t => [packed [(8, 8, 3 * 32 + k), (4, 4, r), (0, 3, t)], packed [(8, 8, st)]]
  | .bay b => [byteWord (4 * 32 + b) 0, packed [(8, 8, 0)]]

/-- The two words of a destination (section 11.5.1): AUTO has kind 5 and may carry an exclusion. -/
def destWords : Dest → List DataWord
  | .auto k none => [packed [(8, 8, 5 * 32 + k), (3, 1, 0)], absentWord]
  | .auto k (some (r, st)) => [packed [(8, 8, 5 * 32 + k), (4, 4, r), (3, 1, 1)], packed [(8, 8, st)]]
  | .slot k r st t => locWords (.stock k r st t)
  | .bay b => locWords (.bay b)

/-- The kind code of a location (section 11.5.1). -/
def locKind : Loc → Nat
  | .none => 0
  | .bed _ _ => 1
  | .hook _ => 2
  | .stock _ _ _ _ => 3
  | .bay _ => 4

/-! ### Locations in commands -/

/-- What three location bytes name (section 11.5.1). -/
inductive LocArg where
  | place (l : Loc)
  | auto (block : Nat) (excluded : Option (Nat × Nat))
  | unknown
deriving DecidableEq, Repr, Inhabited

/-- Location bytes decoded (section 11.5.1): a kind 6 or 7 names nothing (R185). Bits at which the layout shows 0 are
ignored, which is the model's choice (DESIGN CHOICE, log 36). -/
def locArg (bits : LocBits) : LocArg :=
  let n := bits.toNat
  let area := n / 65536 % 32
  let b1 := n / 256 % 256
  let b2 := n % 256
  match n / 65536 / 32 with
  | 0 => .place .none
  | 1 => .place (.bed area b1)
  | 2 => .place (.hook area)
  | 3 => .place (.stock area (b1 / 16) b2 (b1 % 8))
  | 4 => .place (.bay area)
  | 5 => .auto area (if b1 / 8 % 2 = 1 then some (b1 / 16, b2) else none)
  | _ => .unknown

/-- A handle word: slot hi, tag lo. -/
def handleArg (w : Word) : Handle := ⟨(hiByte w).toNat, (loByte w).toNat⟩

/-! ### Codes in commands (section 11.5.2) -/

def plantModeArg : Nat → Option PlantMode
  | 1 => some .production
  | 2 => some .cureOnly
  | 3 => some .standby
  | _ => none

def craneModeArg : Nat → Option CraneMode
  | 1 => some .run
  | 2 => some .hold
  | 3 => some .stop
  | _ => none

def bedKindArg : Nat → Option BedKind
  | 0 => some .form
  | 1 => some .prestress
  | _ => none

def heaterModeArg : Nat → Option HeaterMode
  | 0 => some .spread
  | 1 => some .block
  | _ => none

def linkRateArg : Nat → Option LinkRate
  | 0 => some .r125
  | 1 => some .r250
  | 2 => some .r500
  | _ => none

/-! ### Codes in responses and messages (section 11.5.2) -/

def PlantMode.code : PlantMode → Nat
  | .production => 1
  | .cureOnly => 2
  | .standby => 3

def CraneMode.code : CraneMode → Nat
  | .run => 1
  | .hold => 2
  | .stop => 3

def CraneState.code : CraneState → Nat
  | .offline => 0
  | .idle => 1
  | .offered => 2
  | .working => 3
  | .held => 4
  | .stopped => 5

def BedKind.code : BedKind → Nat
  | .form => 0
  | .prestress => 1

def BedState.code : BedState → Nat
  | .free => 0
  | .set => 1
  | .curing => 2
  | .releaseReady => 3
  | .opened => 4

def Entry.code : Entry → Nat
  | .empty => 0
  | .declared _ => 1
  | .cast _ => 2
  | .void => 3
  | .vacated _ => 4

def ZoneState.code : ZoneState → Nat
  | .idle => 0
  | .arming => 1
  | .live => 2
  | .holding => 3
  | .failed => 4
  | .stale => 5

def Phase.code : Phase → Nat
  | .off => 0
  | .preset => 1
  | .ramp => 2
  | .hold => 3
  | .cool => 4
  | .done => 5

def HeaterMode.code : HeaterMode → Nat
  | .spread => 0
  | .block => 1

def Stage.code : Stage → Nat
  | .declared => 0
  | .curing => 1
  | .liftable => 2

def Quality.code : Quality → Nat
  | .opened => 0
  | .held _ => 1
  | .released => 2

/-- The hold cause code of a quality: 0 where it is absent. -/
def Quality.causeCode : Quality → Nat
  | .held .host => 1
  | .held .overheat => 2
  | _ => 0

def OrderKind.code : OrderKind → Nat
  | .move => 0
  | .dispatch => 1
  | .rehandle => 2

def Origin.code : Origin → Nat
  | .host => 0
  | .program _ => 1
  | .rehandle _ => 2

def OrderState.code : OrderState → Nat
  | .parked => 0
  | .waiting _ => 1
  | .queued => 2
  | .offered => 3
  | .working => 4
  | .unresolved => 5
  | .done => 6
  | .failed => 7
  | .cancelled => 8

/-- The wait reason code of an order state: 0 where it is absent. -/
def OrderState.reasonCode : OrderState → Nat
  | .waiting .notLiftable => 1
  | .waiting .buried => 2
  | .waiting .digBlocked => 3
  | .waiting .noSlot => 4
  | .waiting .bayFull => 5
  | .waiting .base => 6
  | _ => 0

def OrderOutcome.code : OrderOutcome → Nat
  | .normal => 1
  | .late => 2
  | .confirmed => 3
  | .refusedOut => 4
  | .stopped => 5
  | .lost => 6
  | .byHost => 7

def ProgramState.code : ProgramState → Nat
  | .idle => 0
  | .running => 1
  | .stopping => 2
  | .fault _ => 3
  | .done => 4

/-- The fault reason code of a program state: 0 where it is absent. -/
def ProgramState.reasonCode : ProgramState → Nat
  | .fault .slot => 1
  | .fault .order => 2
  | _ => 0

def LinkState.code : LinkState → Nat
  | .off => 0
  | .up => 1
  | .down => 2

def LinkRate.code : LinkRate → Nat
  | .r125 => 0
  | .r250 => 1
  | .r500 => 2

end Sys2Proof.Machine
end

