-- ==== Sys2Proof/Machine/Ops.lean ====
section
/-! DEFINITION. The named operations on State that every block uses: reading and changing one record, resolving the
names a command gives, and how the supervisory port takes a command and answers it. -/

namespace Sys2Proof.Machine

/-! ### One record -/

/-- The live record of a piece id, through the id index (R2). -/
def State.piece (s : State) (id : Nat) : Option Piece := tget s.pieces id
/-- The record in an order slot (R115). -/
def State.order (s : State) (slot : Nat) : Option Order := tget s.orders slot
/-- The order records, in ascending slot. -/
def State.records (s : State) : List (Nat × Order) :=
  (List.range Config.orderSlots).filterMap fun i => (s.order i).map fun o => (i, o)
def State.mix (s : State) (m : Nat) : Mix := vget s.mixes m
def State.bed (s : State) (b : Nat) : Bed := vget s.beds b
def State.zone (s : State) (z : Nat) : Zone := vget s.zones z
def State.heater (s : State) (z : Nat) : Heater := vget s.heaters z
def State.block (s : State) (k : Nat) : Block := vget s.blocks k
def State.bay (s : State) (b : Nat) : Bay := vget s.bays b
def State.program (s : State) (n : Nat) : Program := vget s.programs n
def State.crane (s : State) (c : Nat) : Crane := vget s.cranes c
/-- The entry of a bed position (section 2.2). -/
def State.entry (s : State) (b p : Nat) : Entry := vget (s.bed b).entries p

def State.modPiece (id : Nat) (f : Piece → Piece) (s : State) : State := { s with pieces := tmod s.pieces id f }
def State.modOrder (slot : Nat) (f : Order → Order) (s : State) : State := { s with orders := tmod s.orders slot f }
def State.modMix (m : Nat) (f : Mix → Mix) (s : State) : State := { s with mixes := vmod s.mixes m f }
def State.modBed (b : Nat) (f : Bed → Bed) (s : State) : State := { s with beds := vmod s.beds b f }
def State.modZone (z : Nat) (f : Zone → Zone) (s : State) : State := { s with zones := vmod s.zones z f }
def State.modHeater (z : Nat) (f : Heater → Heater) (s : State) : State := { s with heaters := vmod s.heaters z f }
def State.modBlock (k : Nat) (f : Block → Block) (s : State) : State := { s with blocks := vmod s.blocks k f }
def State.modBay (b : Nat) (f : Bay → Bay) (s : State) : State := { s with bays := vmod s.bays b f }
def State.modProgram (n : Nat) (f : Program → Program) (s : State) : State := { s with programs := vmod s.programs n f }
def State.modCrane (c : Nat) (f : Crane → Crane) (s : State) : State := { s with cranes := vmod s.cranes c f }
/-- Write the entry of a bed position (R26). -/
def State.setEntry (b p : Nat) (e : Entry) (s : State) : State :=
  s.modBed b fun r => { r with entries := vset r.entries p e }

/-! ### Names a command gives -/

/-- A piece id looked up (R2): 0 is out of range, an id with no live record is not found. -/
def State.findPiece (s : State) (id : IdBits) : Except Reason Piece :=
  if id.toNat = 0 then .error .range
  else match s.piece id.toNat with
    | some p => .ok p
    | none => .error .notFound

/-- A handle resolved (R115). -/
def State.findOrder (s : State) (h : Handle) : Except Reason Order :=
  if Config.orderSlots ≤ h.slot then .error .range
  else match s.order h.slot with
    | none => .error .notFound
    | some o => if o.tag = h.tag then .ok o else .error .staleHandle

/-- The handle of the record in a slot. -/
def Order.handle (o : Order) (slot : Nat) : Handle := ⟨slot, o.tag⟩

/-- Live: not yet ended (section 6.2). -/
def OrderState.live : OrderState → Bool
  | .done => false
  | .failed => false
  | .cancelled => false
  | _ => true

/-- PARKED, WAITING or QUEUED: not yet offered (R133, R134). -/
def OrderState.unoffered : OrderState → Bool
  | .parked => true
  | .waiting _ => true
  | .queued => true
  | _ => false

/-- WAITING, whatever the reason. -/
def OrderState.isWaiting : OrderState → Bool
  | .waiting _ => true
  | _ => false

/-- OFFERED, WORKING or UNRESOLVED: in the lift protocol's hands. -/
def OrderState.inLift : OrderState → Bool
  | .offered => true
  | .working => true
  | .unresolved => true
  | _ => false

/-- The live order of a piece with its slot (R9). -/
def State.liveOrder (s : State) (p : Piece) : Option (Nat × Order) :=
  match p.order with
  | none => none
  | some h => (s.order h.slot).map fun o => (h.slot, o)

/-- A command's checks in the order given: the first that fails names the reason (section 6.6 of the Introduction). -/
def firstFailing : List (Bool × Reason) → Option Reason
  | [] => none
  | (ok, r) :: rest => if ok then firstFailing rest else some r

/-! ### The supervisory port takes a command and answers it -/

/-- The word sent for a data word: its named bits as given, the others free (log 8). -/
def sentWord (drawn i : Nat) (d : DataWord) : Word :=
  (d.value &&& d.named) ||| (Config.freeWord drawn i &&& ~~~d.named)

/-- The words of a response (R187): result, kind and reason; overrun flag, ATTN and length; then the data. -/
def responseWords (s : State) (kind : Nat) (r : Reply) : List Word :=
  let (result, reason, data) : Nat × Reason × List DataWord := match r with
    | .done data => (1, .none, data)
    | .failed reason => (2, reason, [])
    | .unknown => (3, .unknownKind, [])
  let words := packed [(14, 2, result), (8, 6, kind), (0, 8, reason.code)]
    :: packed [(15, 1, bit s.port.overrun), (14, 1, bit s.attnLine), (0, 10, data.length + 2)] :: data
  (words.zipIdx).map fun e => sentWord s.freeCount e.2 e.1

/-- The port enters RESPONDING: the response is built, the overrun flag cleared once copied, RDY asserted (R187). -/
def State.respond (kind : Nat) (r : Reply) (s : State) : State :=
  { s with
    port := { s.port with
      state := .responding
      frame := []
      response := responseWords s kind r
      overrun := false }
    freeCount := s.freeCount + 1 }

/-- Execution ends (R186): RESPONDING with SEL low; with SEL high the response is discarded and the port is IDLE. -/
def State.endExecution (kind : Nat) (r : Reply) (s : State) : State :=
  if s.port.selLow then s.respond kind r
  else { s with port := { s.port with state := .idle, frame := [] } }

/-- The port hands command `c` to its block. In EXECUTING it is the frame's command alone (R185, log 1). -/
def State.takes (s : State) (c : Instr) : Bool :=
  match s.port.state with
  | .executing => decodeFrame s.port.frame == some c
  | _ => true

/-- Whether `c` is the command that a warm reset found being executed: its response is discarded (R188, log 29). -/
def State.isCarried (s : State) (c : Instr) : Bool :=
  match s.port.state, s.port.carried with
  | .executing, _ => false
  | _, some f => decodeFrame f == some c
  | _, none => false

/-- The step of a host command (R186): the owning block takes it whole, and the port answers it. -/
def hostStep (c : Instr) (kind : Nat) (effect : State → State × Reply) (s : State) :
    Host.Outcome State Fault Refusal :=
  if s.takes c then
    let t := effect s
    if s.isCarried c then .next { t.1 with port := { t.1.port with carried := none } }
    else .next (t.1.endExecution kind t.2)
  else .next s

/-- A command that changes nothing and answers from the state. -/
def readOnly (answer : State → Reply) (s : State) : State × Reply := (s, answer s)

/-- A command with a check: refused with the reason it fails with, changing nothing, or carried out. -/
def checked {α : Type} (check : State → Except Reason α) (act : α → State → State × Reply) (s : State) :
    State × Reply :=
  match check s with
  | .error r => (s, .failed r)
  | .ok a => act a s

/-- Checks that yield nothing but the go-ahead. -/
def guardAll (checks : List (Bool × Reason)) : Except Reason Unit :=
  match firstFailing checks with
  | some r => .error r
  | none => .ok ()

end Sys2Proof.Machine
end

