-- ==== Sys2Proof/Machine/Heat.lean ====
section
/-! DEFINITION. The Heat Unit (chapter 4): zone work and states, heat phases, duty, heater outputs and the heater line's
hand-over; and the meanings of its commands. -/

namespace Sys2Proof.Machine

/-! ### Work (R70) -/

/-- A bed whose cycle has been cast and not ended: CURING, RELEASE_READY or OPEN. -/
def BedState.cast : BedState → Bool
  | .curing => true
  | .releaseReady => true
  | .opened => true
  | _ => false

/-- Some slot of the block is OCCUPIED. -/
def Block.hasOccupant (b : Block) : Bool :=
  b.slots.any fun e => match e.2 with
    | .occupied _ => true
    | _ => false

/-- A zone has work (R70). -/
def State.hasWork (s : State) (z : Nat) : Bool :=
  if z < Config.bedZones then (s.bed (z / 4)).state.cast && z % 4 < (s.bed (z / 4)).zoneCount
  else (s.block (z - Config.bedZones)).defined && (s.block (z - Config.bedZones)).hasOccupant

/-- The zones of a bed's cycle: local number below the zone count (R24). -/
def State.cycleZones (s : State) (b : Nat) : List Nat := (List.range (s.bed b).zoneCount).map (b * 4 + ·)

/-! ### Outputs forced off between ticks (R87) -/

/-- A forced duty of 0 with its resets, the output off (R87). -/
def Heater.force (h : Heater) : Heater :=
  { h with duty := 0, accumulator := 0, window := 0, onLeft := 0, output := false }

/-- The heater line takes a tick's slot: a shift in progress is abandoned, and the new set is shifted (R90, R197). -/
def HeaterLine.slot (outputs : Vector Bool 48) (l : HeaterLine) : HeaterLine :=
  { l with shifting := some outputs, ticked := true }

/-- The heater line takes a set handed between ticks in the same way, but none before the first tick's slot since a reset:
until then it latches nothing but the reset's 48 offs (R197, log 37). -/
def HeaterLine.between (outputs : Vector Bool 48) (l : HeaterLine) : HeaterLine :=
  if l.ticked then { l with shifting := some outputs } else l

/-- HU hands the heater line the tick's slot: the 48 outputs as they stand (R90). -/
def State.handSlot (s : State) : State := { s with line := s.line.slot (s.heaters.map (·.output)) }

/-- HU hands the heater line the 48 outputs as they stand between ticks (R87). -/
def State.handLine (s : State) : State := { s with line := s.line.between (s.heaters.map (·.output)) }

/-- Force the given bed zones off and hand the line the new set (R87); nothing where no zone is given. -/
def State.forceZones (zs : List Nat) (s : State) : State :=
  if zs.isEmpty then s else (zs.foldl (fun s z => s.modHeater z Heater.force) s).handLine

/-- The sensor allows heat: LIVE or HOLDING (section 4.2). -/
def ZoneState.trusted : ZoneState → Bool
  | .live => true
  | .holding => true
  | _ => false

/-- The phase allows heat: RAMP, HOLD or COOL (R87). -/
def Phase.heats : Phase → Bool
  | .ramp => true
  | .hold => true
  | .cool => true
  | _ => false

/-! ### Arming and idling (R75, R76) -/

/-- One zone goes to ARMING (R75). -/
def State.armZone (z : Nat) (s : State) : State :=
  (s.modZone z fun r => { r with state := .arming, faultRun := 0 }).modHeater z fun h =>
    { h with accumulator := 0, window := 0, onLeft := 0 }

/-- Zones go to ARMING (R75); bed zones whose sensor allowed heat are forced off (R87). -/
def State.armZones (zs : List Nat) (s : State) : State :=
  let lost := zs.filter fun z => z < Config.bedZones && (s.zone z).state.trusted
  (zs.foldl (fun s z => s.armZone z) s).forceZones lost

/-- One bed zone's work ends (R76). -/
def State.idleBedZone (z : Nat) (s : State) : State :=
  (s.modZone z fun r => { r with state := .idle, faultRun := 0 }).modHeater z fun h =>
    { h with setpoint := none, carry := 0, accumulator := 0, window := 0, onLeft := 0, duty := 0, output := false }

/-- A bed goes FREE: its phase becomes OFF and its four zones go IDLE (R37, R76). The line gets the new set where that ends
a phase or takes a zone from LIVE or HOLDING (R87). -/
def State.idleBed (b : Nat) (s : State) : State :=
  let ended := (s.bed b).phase ≠ .off || (List.range 4).any fun j => (s.zone (b * 4 + j)).state.trusted
  let s := s.modBed b fun r => { r with phase := .off, phaseMinutes := 0 }
  let s := (List.range 4).foldl (fun s j => s.idleBedZone (b * 4 + j)) s
  if ended then s.handLine else s

/-- An ambient zone's work ends (R76). -/
def State.idleAmbient (k : Nat) (s : State) : State :=
  s.modZone (Config.bedZones + k) fun r => { r with state := .idle, faultRun := 0 }

/-! ### Phases (R82 to R86) -/

/-- Every cycle zone's setpoint meets a condition. -/
def State.setpointsAll (s : State) (b : Nat) (p : Int → Bool) : Bool :=
  (s.cycleZones b).all fun z => match (s.heater z).setpoint with
    | some v => p v
    | none => false

/-- The test of R86: COOL becomes DONE when every cycle zone stands at or below the end temperature. -/
def State.coolTest (b : Nat) (s : State) : State :=
  if s.setpointsAll b (fun v => v ≤ (s.bed b).profile.finish) then
    (s.modBed b fun r => { r with phase := .done }).forceZones (s.cycleZones b)
  else s

/-- The setpoint a zone takes into COOL (R84): its own, or from PRESET its last good temperature, capped. -/
def coolSetpoint (cap : Option Int) (lastGood : Int) : Option Int → Int
  | some v => v
  | none => match cap with
    | some c => min lastGood c
    | none => lastGood

/-- PRESET, RAMP or HOLD becomes COOL; COOL and DONE stay (R84). -/
def State.enterCool (b : Nat) (s : State) : State :=
  match (s.bed b).phase with
  | .preset | .ramp | .hold =>
    let cap := (s.bed b).cap
    let s := (s.cycleZones b).foldl (fun s z =>
      s.modHeater z fun h => { h with setpoint := some (coolSetpoint cap (s.zone z).lastGood h.setpoint), carry := 0 }) s
    (s.modBed b fun r => { r with phase := .cool, phaseMinutes := 0 }).coolTest b
  | _ => s

/-- The ramp target: the lesser of the peak and the setpoint cap (R83). -/
def Bed.rampTarget (r : Bed) : Int :=
  match r.cap with
  | some c => min r.profile.peak c
  | none => r.profile.peak

/-- The test of R83: RAMP becomes HOLD when every cycle zone stands at the target. -/
def State.rampTest (b : Nat) (s : State) : State :=
  if s.setpointsAll b (fun v => v = (s.bed b).rampTarget) then
    s.modBed b fun r => { r with phase := .hold, phaseMinutes := 0 }
  else s

/-- RAMP begins (R83). -/
def State.rampStart (b : Nat) (s : State) : State :=
  let target := (s.bed b).rampTarget
  let s := (s.cycleZones b).foldl (fun s z =>
    s.modHeater z fun h => { h with setpoint := some (min (s.zone z).lastGood target), carry := 0 }) s
  (s.modBed b fun r => { r with phase := .ramp, phaseMinutes := 0 }).rampTest b

/-- One minute's step of a zone in RAMP (R83). -/
def Heater.rampStep (rate : Nat) (target : Int) (h : Heater) : Heater :=
  match h.setpoint with
  | some v =>
    if v < target then
      let sum := h.carry + rate
      if target ≤ v + (sum / 60 : Nat) then { h with setpoint := some target, carry := 0 }
      else { h with setpoint := some (v + (sum / 60 : Nat)), carry := sum % 60 }
    else h
  | none => h

/-- One minute's step of a zone in COOL (R86). -/
def Heater.coolStep (rate : Nat) (finish : Int) (h : Heater) : Heater :=
  match h.setpoint with
  | some v =>
    if finish < v then
      let sum := h.carry + rate
      if v - (sum / 60 : Nat) ≤ finish then { h with setpoint := some finish, carry := 0 }
      else { h with setpoint := some (v - (sum / 60 : Nat)), carry := sum % 60 }
    else h
  | none => h

/-- The phase minute count rises by one (R82, R84, R86; in RAMP, log 17). -/
def State.countMinute (b : Nat) (s : State) : State :=
  s.modBed b fun r => { r with phaseMinutes := r.phaseMinutes + 1 }

/-- The minute work of one bed (R82 to R86). -/
def State.minuteBed (b : Nat) (s : State) : State :=
  match (s.bed b).phase with
  | .off => s
  | .preset => if (s.bed b).phaseMinutes = (s.bed b).profile.preset then s.rampStart b else s.countMinute b
  | .ramp =>
    let rate := (s.bed b).profile.ramp
    let target := (s.bed b).rampTarget
    ((s.cycleZones b).foldl (fun s z => s.modHeater z (Heater.rampStep rate target)) (s.countMinute b)).rampTest b
  | .hold =>
    let s := s.countMinute b
    if (s.bed b).profile.hold ≠ 0 ∧ (s.bed b).profile.hold ≤ (s.bed b).phaseMinutes then s.enterCool b else s
  | .cool =>
    let rate := (s.bed b).profile.cool
    let finish := (s.bed b).profile.finish
    ((s.cycleZones b).foldl (fun s z => s.modHeater z (Heater.coolStep rate finish)) (s.countMinute b)).coolTest b
  | .done => s.countMinute b

/-- The minute work of every bed (R180). -/
def State.minuteWork (s : State) : State := (List.range Config.beds).foldl (fun s b => s.minuteBed b) s

/-! ### The tick (R74, R87 to R90) -/

/-- The staleness test of one zone (R74). -/
def State.staleTest (z : Nat) (s : State) : State :=
  if (s.zone z).state.trusted ∧ (s.zone z).gap < s.time - (s.zone z).lastArrival then
    (s.modZone z fun r => { r with state := .stale }).noteZone z
  else s

/-- The duty of a bed zone (R87); none where it is forced to 0. -/
def State.computedDuty (s : State) (z : Nat) : Option Nat :=
  if (s.zone z).state.trusted ∧ (s.bed (z / 4)).phase ≠ .done ∧ s.mode ≠ .standby ∧ s.yardStop = false then
    match (s.heater z).setpoint with
    | some v => some (min ((s.heater z).gain * (v - (s.zone z).lastGood)).toNat (s.heater z).dutyCap)
    | none => none
  else none

/-- One second in SPREAD mode (R88). -/
def Heater.spreadTick (d : Nat) (h : Heater) : Heater :=
  if 1024 ≤ h.accumulator + d then
    { h with duty := d, accumulator := h.accumulator + d - 1024, output := true }
  else { h with duty := d, accumulator := h.accumulator + d, output := false }

/-- One second in BLOCK mode (R89). -/
def Heater.blockTick (d : Nat) (h : Heater) : Heater :=
  let left := if h.window = 0 then min (d / 16) 63 else h.onLeft
  let next := if h.window = 63 then 0 else h.window + 1
  if 0 < left then { h with duty := d, onLeft := left - 1, window := next, output := true }
  else { h with duty := d, onLeft := left, window := next, output := false }

/-- The duty and output of one bed zone for the coming second (R87 to R89). -/
def State.dutyTick (z : Nat) (s : State) : State :=
  match s.computedDuty z with
  | none => s.modHeater z Heater.force
  | some d => s.modHeater z fun h => match h.mode with
    | .spread => h.spreadTick d
    | .block => h.blockTick d

/-- HU's work on a tick: staleness, on a plant minute the phases, then duties and the heater slot (R180). -/
def State.heatTick (isMinute : Bool) (s : State) : State :=
  let s := (List.range Config.zones).foldl (fun s z => s.staleTest z) s
  let s := if isMinute then s.minuteWork else s
  ((List.range Config.bedZones).foldl (fun s z => s.dutyTick z) s).handSlot

/-- A zone's last arrival time is set (R77). -/
def Zone.arriveAt (t : Nat) (r : Zone) : Zone := { r with lastArrival := t }

/-- What HU does with a new plant time (R77): every arrival time becomes it, every zone with work re-arms. -/
def State.heatSetTime (t : Nat) (s : State) : State :=
  let s := { s with zones := s.zones.map (Zone.arriveAt t) }
  s.armZones ((List.range Config.zones).filter s.hasWork)

/-! ### Commands of HU -/

/-- The value of an unsigned word lies in a range. -/
def within (lo hi n : Nat) : Bool := lo ≤ n && n ≤ hi
/-- The value of a signed word lies in a range. -/
def withinInt (lo hi n : Int) : Bool := lo ≤ n && n ≤ hi

/-- SET_PROFILE (R81). R81 gives no order between its refusals: RANGE comes before WRONG_STATE (DESIGN CHOICE, log 39). -/
def execSetProfile (bed preset ramp peak hold cool finish : Word) (s : State) : Host.Outcome State Fault Refusal :=
  hostStep (.setProfile bed preset ramp peak hold cool finish) 0x14 (checked
    (fun s => guardAll [
      (bed.toNat < Config.beds && within 0 600 preset.toNat && within 1 350 ramp.toNat
        && withinInt (-400) 1200 peak.toInt && within 0 2880 hold.toNat && within 1 350 cool.toNat
        && withinInt (-400) 1200 finish.toInt, .range),
      ((s.bed bed.toNat).state == .set, .wrongState)])
    (fun _ s => (s.modBed bed.toNat fun r => { r with profile :=
      { preset := preset.toNat, ramp := ramp.toNat, peak := peak.toInt, hold := hold.toNat, cool := cool.toNat,
        finish := finish.toInt } }, .done []))) s

/-- The fields ZONE_SETUP writes to a bed zone's heater; a change of mode resets the accumulator and window (R79). -/
def Heater.setup (gain cap : Nat) (m : HeaterMode) (h : Heater) : Heater :=
  if h.mode = m then { h with gain := gain, dutyCap := cap }
  else { h with gain := gain, dutyCap := cap, mode := m, accumulator := 0, window := 0, onLeft := 0 }

/-- ZONE_SETUP (R79): an ambient zone takes the gap limit alone, and its other words are not checked. -/
def execZoneSetup (zone gap gain cap mode : Word) (s : State) : Host.Outcome State Fault Refusal :=
  hostStep (.zoneSetup zone gap gain cap mode) 0x15 (checked
    (fun _ => guardAll [
      (zone.toNat < Config.zones && within 60 900 gap.toNat, .range),
      (Config.bedZones ≤ zone.toNat || (within 1 64 gain.toNat && within 0 1023 cap.toNat
        && (heaterModeArg mode.toNat).isSome), .range)])
    (fun _ s =>
      let s := s.modZone zone.toNat fun r => { r with gap := gap.toNat }
      (match heaterModeArg mode.toNat with
        | some m => if zone.toNat < Config.bedZones then s.modHeater zone.toNat (Heater.setup gain.toNat cap.toNat m) else s
        | none => s, .done []))) s

/-- The data words of ZONE_STATUS (R80, section 11.5.5). -/
def State.zoneWords (s : State) (z : Nat) : List DataWord :=
  let r := s.zone z
  let h := s.heater z
  let b := s.bed (z / 4)
  [packed [(0, 3, r.state.code), (8, 1, bit (s.hasWork z)), (12, 2, r.faultRun)], tempWord r.lastGood]
    ++ longWords r.lastArrival ++ [fullWord r.gap]
    ++ if Config.bedZones ≤ z then [] else
      [fullWord h.gain, fullWord h.dutyCap,
        packed [(0, 1, h.mode.code), (1, 1, bit h.output), (2, 1, bit h.setpoint.isSome), (8, 3, b.phase.code)],
        match h.setpoint with
          | some v => tempWord v
          | none => absentWord,
        fullWord h.carry, fullWord h.duty, fullWord h.accumulator, byteWord h.window h.onLeft,
        fullWord (min b.phaseMinutes 65535)]

/-- ZONE_STATUS (R80). -/
def execZoneStatus (zone : Word) (s : State) : Host.Outcome State Fault Refusal :=
  hostStep (.zoneStatus zone) 0x16 (readOnly fun s =>
    if zone.toNat < Config.zones then .done (s.zoneWords zone.toNat) else .failed .range) s

/-- HEATER_LATCH (R197): the forty-eighth bit has been shifted and HLAT latches the set; nothing without a shift. -/
def execHeaterLatch (s : State) : Host.Outcome State Fault Refusal :=
  match s.line.shifting with
  | some outputs => .next { s with line := { s.line with shifting := none, chain := outputs } }
  | none => .next s

end Sys2Proof.Machine
end

