-- ==== Sys2Proof/Machine/Beds.lean ====
section
/-! DEFINITION. The Bed Unit (chapter 2): the bed state machine, the weakest-piece gate, the opening of a FORM bed and the
return to FREE; and the meanings of its commands that need no other block than the Heat Unit. -/

namespace Sys2Proof.Machine

/-- The bed goes to a state and enters the bed attention set (R41). -/
def State.setBedState (b : Nat) (st : BedState) (s : State) : State :=
  (s.modBed b fun r => { r with state := st }).noteBed b

/-- The entry is CAST. -/
def Entry.isCast : Entry → Bool
  | .cast _ => true
  | _ => false

/-- The entry is DECLARED. -/
def Entry.isDeclared : Entry → Bool
  | .declared _ => true
  | _ => false

/-- The entry is VACATED and open (R27). -/
def Entry.isOpen : Entry → Bool
  | .vacated (some _) => true
  | _ => false

/-- The entry keeps an OPEN bed from returning to FREE (R37). -/
def Entry.keeps (e : Entry) : Bool := e.isDeclared || e.isCast || e.isOpen

/-- How many entries of a bed are of a kind. -/
def Bed.count (r : Bed) (p : Entry → Bool) : Nat := (r.entries.toList.filter p).length

/-- The bed has an entry of a kind. -/
def Bed.has (r : Bed) (p : Entry → Bool) : Bool := r.entries.toList.any p

/-- The bed goes to FREE (R37). -/
def State.freeBed (b : Nat) (s : State) : State :=
  ((s.modBed b fun r =>
    { r with state := .free, cap := none, notYet := 0, entries := Vector.replicate 24 .empty }).idleBed b).noteBed b

/-- The test of R37: an OPEN bed with no DECLARED, CAST or open VACATED entry goes to FREE. -/
def State.bedFreeTest (b : Nat) (s : State) : State :=
  if (s.bed b).state = .opened ∧ (s.bed b).has Entry.keeps = false then s.freeBed b else s

/-- The piece is CURING. -/
def State.isCuring (s : State) (id : Nat) : Bool :=
  match s.piece id with
  | some p => p.stage == .curing
  | none => false

/-- Some CAST entry of the bed holds a CURING piece. -/
def State.bedHasCuring (s : State) (b : Nat) : Bool :=
  (s.bed b).has fun e => match e with
    | .cast id => s.isCuring id
    | _ => false

/-- The test of R35: a FORM bed in OPEN with no CURING piece left hands "all pieces liftable" to HU. -/
def State.formTest (b : Nat) (s : State) : State :=
  if (s.bed b).kind = .form ∧ (s.bed b).state = .opened ∧ s.bedHasCuring b = false then s.enterCool b else s

/-- The decision of R33: a PRESTRESS bed in CURING whose count is 0 and that keeps a CAST entry is RELEASE_READY. -/
def State.countTest (b : Nat) (s : State) : State :=
  if (s.bed b).kind = .prestress ∧ (s.bed b).state = .curing ∧ (s.bed b).notYet = 0 ∧ (s.bed b).has Entry.isCast then
    (s.setBedState b .releaseReady).enterCool b
  else s

/-- The not-yet-release count falls by one (R32). -/
def State.lowerCount (b : Nat) (s : State) : State := s.modBed b fun r => { r with notYet := r.notYet - 1 }

/-- A STRIP latch of a CURING piece in a CAST entry of a FORM bed (R35, R63), after PT has taken it to LIFTABLE. -/
def State.stripLatched (b : Nat) (s : State) : State :=
  (if (s.bed b).state = .curing then s.setBedState b .opened else s).formTest b

/-- A RELEASE latch of a piece in a CAST entry (R64): counted on a PRESTRESS bed in CURING. -/
def State.releaseLatched (b : Nat) (s : State) : State :=
  if (s.bed b).kind = .prestress ∧ (s.bed b).state = .curing then (s.lowerCount b).countTest b else s

/-- A scrap releases the entry of a cast piece (R36): VOID before OPEN, EMPTY in OPEN; an unlatched piece of a
PRESTRESS bed leaves the count (R32). -/
def State.scrapEntry (b p : Nat) (latched : Bool) (s : State) : State :=
  if (s.bed b).state = .opened then s.setEntry b p .empty
  else
    let s := s.setEntry b p .void
    if (s.bed b).kind = .prestress ∧ latched = false then s.lowerCount b else s

/-- What a scrap brings on for the bed once the record has ended (R36). -/
def State.scrapConsequences (b : Nat) (s : State) : State :=
  match (s.bed b).state with
  | .curing | .releaseReady => if (s.bed b).has Entry.isCast then s.countTest b else s.freeBed b
  | .opened => (s.formTest b).bedFreeTest b
  | _ => s

/-- The tests after a crane event or confirmation has reached an entry (R38). -/
def State.entryTests (b : Nat) (s : State) : State := (s.formTest b).bedFreeTest b

/-- The vacating order ends: its open entry closes (R26, R27). -/
def State.closeEntry (b p : Nat) (h : Handle) (s : State) : State :=
  if s.entry b p = .vacated (some h) then s.setEntry b p (.vacated none) else s

/-! ### Commands -/

/-- The local zone that two bits of SET_BED's map give position `p` (section 11.5.3). -/
def mapBits (map : BitVec 48) (p : Nat) : Nat := map.toNat / 4 ^ p % 4

/-- The zone map SET_BED writes: positions at or above the position count are stored as 0 (R28). -/
def storedMap (map : BitVec 48) (positions : Nat) : Vector Nat 24 :=
  (Vector.range 24).map fun p => if p < positions then mapBits map p else 0

/-- SET_BED (R28). -/
def execSetBed (bed kind : Byte) (positions zones : Word) (map : BitVec 48) (s : State) :
    Host.Outcome State Fault Refusal :=
  hostStep (.setBed bed kind positions zones map) 0x0C (checked
    (fun s =>
      match bedKindArg kind.toNat with
      | none => .error .range
      | some k => (guardAll [
          (bed.toNat < Config.beds && within 1 24 positions.toNat && within 1 4 zones.toNat, .range),
          ((s.bed bed.toNat).state == .free, .wrongState),
          ((List.range positions.toNat).all fun p => mapBits map p < zones.toNat, .range)]).map fun _ => k)
    (fun k s => ((s.modBed bed.toNat fun r =>
        { r with
          kind := k
          positions := positions.toNat
          zoneCount := zones.toNat
          zoneMap := storedMap map positions.toNat }).setBedState bed.toNat .set, .done []))) s

/-- The least of a list of temperatures. -/
def leastTemp : List Int → Option Int
  | [] => none
  | t :: rest => match leastTemp rest with
    | none => some t
    | some u => some (min t u)

/-- The id of a DECLARED entry. -/
def Entry.declaredPiece : Entry → Option Nat
  | .declared id => some id
  | _ => none

/-- The id of a CAST entry. -/
def Entry.castPiece : Entry → Option Nat
  | .cast id => some id
  | _ => none

/-- The mix of a live piece. -/
def State.mixOf (s : State) (id : Nat) : Option Mix := (s.piece id).map fun p => s.mix p.mix

/-- The setpoint cap of a cast (R31): the least Tmax among the mixes of the DECLARED pieces, less 30. -/
def State.castCap (s : State) (b : Nat) : Option Int :=
  (leastTemp (((s.bed b).entries.toList.filterMap Entry.declaredPiece).filterMap fun id =>
    (s.mixOf id).map (·.tmax))).map (· - 30)

/-- A piece is cast (R7, R31): CURING at its home position, cast time and credit start now. -/
def State.castPiece (b p now : Nat) (s : State) : State :=
  match s.entry b p with
  | .declared id => (s.setEntry b p (.cast id)).modPiece id fun r =>
      { r with stage := .curing, loc := .bed b p, castTime := some now, creditStart := some now }
  | _ => s

/-- The effects of a CAST (R31). -/
def State.castBed (b : Nat) (s : State) : State :=
  let cap := s.castCap b
  let s := s.modBed b fun r => { r with cap := cap }
  let s := (List.range Config.positions).foldl (fun s p => s.castPiece b p s.time) s
  let s := if (s.bed b).kind = .prestress then s.modBed b fun r => { r with notYet := r.count Entry.isCast } else s
  let s := s.armZones (s.cycleZones b)
  (s.modBed b fun r => { r with phase := .preset, phaseMinutes := 0 }).setBedState b .curing

/-- CAST (R30, R31). -/
def execCast (bed : Word) (s : State) : Host.Outcome State Fault Refusal :=
  hostStep (.cast bed) 0x0E (checked
    (fun s => guardAll [
      (bed.toNat < Config.beds, .range),
      ((s.bed bed.toNat).state == .set && (s.bed bed.toNat).has Entry.isDeclared, .wrongState)])
    (fun _ s => (s.castBed bed.toNat, .done []))) s

/-- Zone map words 4 to 6 of SET_BED, two bits a position (section 11.5.3). -/
def mapWord (m : Vector Nat 24) (w : Nat) : DataWord :=
  packed ((List.range 8).map fun i => (2 * i, 2, vget m (8 * w + i)))

/-- The two words BED_STATUS carries for a position (section 11.5.5). -/
def entryWords (e : Entry) : List DataWord :=
  match e with
  | .declared id | .cast id => [packed [(13, 3, e.code), (0, 8, id / 65536)], fullWord id]
  | .vacated (some h) => [packed [(13, 3, e.code), (12, 1, 1)], handleWord h]
  | .vacated none => [packed [(13, 3, e.code), (12, 1, 0)], absentWord]
  | _ => [packed [(13, 3, e.code)], absentWord]

/-- The data words of BED_STATUS (R40, section 11.5.5). -/
def Bed.words (r : Bed) : List DataWord :=
  [packed [(8, 1, r.kind.code), (0, 3, r.state.code)], byteWord r.positions r.zoneCount,
    mapWord r.zoneMap 0, mapWord r.zoneMap 1, mapWord r.zoneMap 2,
    match r.cap with
      | some c => tempWord c
      | none => absentWord,
    packed [(15, 1, bit r.cap.isSome), (0, 5, r.notYet)], fullWord r.phase.code]
    ++ (List.range r.positions).flatMap fun p => entryWords (vget r.entries p)

/-- BED_STATUS (R40). -/
def execBedStatus (bed : Word) (s : State) : Host.Outcome State Fault Refusal :=
  hostStep (.bedStatus bed) 0x10 (readOnly fun s =>
    if bed.toNat < Config.beds then .done (s.bed bed.toNat).words else .failed .range) s

/-- The data words of a QUERY_EMPTY: the empty bit, then the three counts (R113, section 11.5.4). -/
def emptyWords (empty : Bool) (a b c : Nat) : List DataWord :=
  [packed [(0, 1, bit empty)], fullWord a, fullWord b, fullWord c]

/-- QUERY_EMPTY, bed form (R113). -/
def execQueryEmptyBed (bed : BitVec 4) (s : State) : Host.Outcome State Fault Refusal :=
  hostStep (.queryEmptyBed bed) 0x27 (readOnly fun s =>
    if bed.toNat < Config.beds then
      let r := s.bed bed.toNat
      .done (emptyWords (!r.has Entry.keeps) (r.count Entry.isDeclared) (r.count Entry.isCast) (r.count Entry.isOpen))
    else .failed .range) s

end Sys2Proof.Machine
end

