-- ==== Sys2Proof/Machine/Maturity.lean ====
section
/-! DEFINITION. The Maturity Unit and the Mix Table (chapter 3): the credit pass, strength, gates, overheats and the
automatic hold, the re-arming of a zone's pieces; LOAD_MIX and READ_MIX. HU's handling of a sample (R71 to R73) stands
here too, since it hands the zone on to the pass. -/

namespace Sys2Proof.Machine

/-! ### Samples (R49) -/

/-- A temperature value clamped into the range the part holds (R49). -/
def clampTemp (v : Int) : Int := max (-400) (min v 1200)

/-! ### Strength (R60) -/

/-- Strength on one segment of the curve, rounded down (R60). -/
def segmentStrength (m : Nat) (a b : Nat × Nat) : Nat := a.2 + (m - a.1) * (b.2 - a.2) / (b.1 - a.1)

/-- Strength at a maturity, along the points of a curve from the first (R60). -/
def curveStrength (m : Nat) : List (Nat × Nat) → Nat
  | [] => 0
  | [a] => a.2
  | a :: b :: rest => if b.1 ≤ m then curveStrength m (b :: rest) else segmentStrength m a b

/-- The mix's strength at a maturity (R60). -/
def Mix.strengthAt (x : Mix) (m : Nat) : Nat := curveStrength m x.curve.toList

/-! ### The pieces of a zone (R51) -/

/-- The ids of a stock block's OCCUPIED slots, ascending by row, stack, tier: the order of their keys (R51). -/
def Block.occupants (b : Block) : List Nat :=
  b.slots.filterMap fun e => match e.2 with
    | .occupied id => some id
    | _ => none

/-- The pieces a zone credits, in the order MU walks them (R25, R51). -/
def State.zonePieces (s : State) (z : Nat) : List Nat :=
  if z < Config.bedZones then
    (List.range Config.positions).filterMap fun p =>
      if vget (s.bed (z / 4)).zoneMap p = z % 4 then (s.entry (z / 4) p).castPiece else none
  else (s.block (z - Config.bedZones)).occupants

/-! ### The credit pass (R50 to R67) -/

/-- What HU passes with a hand-over (R50). -/
structure HandOver where
  now : Nat
  prior : Nat
  gap : Nat
  tc : Int
  tp : Int
deriving DecidableEq, Repr

/-- The overheat test (R55): the count rises, to 255 at most. -/
def Piece.overheated (hot : Bool) (p : Piece) : Piece := if hot then { p with overheat := min (p.overheat + 1) 255 } else p

/-- The conditions of the automatic hold (R67). -/
def Piece.holdsItself (hot : Bool) (limit : Nat) (p : Piece) : Bool :=
  hot && limit < p.overheat && p.quality == .opened && !p.waived

/-- The interval taken (R56). -/
def HandOver.interval (h : HandOver) (p : Piece) : Nat :=
  min (h.now - max h.prior (p.creditStart.getD 0)) h.gap

/-- The temperature term (R55, R57): both ends capped at Tmax, less twice the datum, not below 0. -/
def HandOver.term (h : HandOver) (x : Mix) : Nat := (min h.tp x.tmax + min h.tc x.tmax - 2 * x.t0).toNat

/-- Maturity and residual after a credited amount (R57, R58); a piece at the ceiling stays there with residual 0
(log 19). -/
def Piece.credit (amount : Nat) (p : Piece) : Piece :=
  let total := amount + p.residual
  if Config.maturityMax < p.maturity + total / Config.residualUnits ∨ p.maturity = Config.maturityMax then
    { p with maturity := Config.maturityMax, residual := 0 }
  else
    { p with maturity := p.maturity + total / Config.residualUnits, residual := total % Config.residualUnits }

/-- The gates latch in order (R62). -/
def Piece.latch (x : Mix) (p : Piece) : Piece :=
  { p with
    gateStrip := p.gateStrip || x.strip ≤ p.strength
    gateRelease := p.gateRelease || x.release ≤ p.strength
    gateDispatch := p.gateDispatch || x.dispatch ≤ p.strength }

/-- The curing part of a pass over one piece (R57 to R62): strength and gates only where maturity rose. -/
def Piece.cure (x : Mix) (h : HandOver) (p : Piece) : Piece :=
  let q := p.credit (h.term x * h.interval p)
  if p.maturity < q.maturity then ({ q with strength := x.strengthAt q.maturity }).latch x else q

/-- A pass has latched a gate that was not latched before. -/
def newlyLatched (p q : Piece) : Bool :=
  (q.gateStrip && !p.gateStrip) || (q.gateRelease && !p.gateRelease) || (q.gateDispatch && !p.gateDispatch)

/-- What STRIP and RELEASE latches do to the bed the piece stands on (R63, R64), STRIP first. -/
def State.gateEffects (id : Nat) (p q : Piece) (s : State) : State :=
  match p.loc with
  | .bed b _ =>
    let s :=
      if q.gateStrip && !p.gateStrip && (s.bed b).kind == .form && p.stage == .curing then
        (s.modPiece id fun r => { r with stage := .liftable }).stripLatched b
      else s
    if q.gateRelease && !p.gateRelease then s.releaseLatched b else s
  | _ => s

/-- A full credit pass over one piece (R54 to R67); the ids of the pieces that latched a gate are collected (R66). -/
def creditPiece (h : HandOver) (acc : State × List Nat) (id : Nat) : State × List Nat :=
  match acc.1.piece id with
  | none => acc
  | some p =>
    if p.quality = .released then acc
    else
      let x := acc.1.mix p.mix
      let hot : Bool := x.tmax < h.tc
      let p1 := p.overheated hot
      let held := p1.holdsItself hot x.limit
      let p2 := if held then { p1 with quality := .held .overheat } else p1
      let q := p2.cure x h
      let s := acc.1.modPiece id fun _ => q
      let s := if held then s.notePiece id else s
      (s.gateEffects id p2 q, if newlyLatched p2 q then acc.2 ++ [id] else acc.2)

/-- A full credit pass over a zone (R50): the pieces that latched a gate, in walk order (R66). -/
def State.creditPass (z : Nat) (h : HandOver) (s : State) : State × List Nat :=
  (s.zonePieces z).foldl (creditPiece h) (s, [])

/-- The re-arming of one piece (R52). -/
def State.armPiece (now id : Nat) (s : State) : State :=
  s.modPiece id fun p => if p.quality = .released then p else { p with creditStart := some now }

/-- The re-arming of a zone's pieces (R52). -/
def State.armPass (z now : Nat) (s : State) : State := (s.zonePieces z).foldl (fun s id => s.armPiece now id) s

/-! ### HU takes a sample (R71 to R73) -/

/-- A good sample (R71). -/
def State.goodSample (z : Nat) (v : Int) (s : State) : State × List Nat :=
  let r := s.zone z
  let h : HandOver := ⟨s.time, r.lastArrival, r.gap, v, r.lastGood⟩
  let t := s.modZone z fun r => { r with lastGood := v, lastArrival := s.time, faultRun := 0, state := .live }
  match r.state with
  | .idle => (t, [])
  | .arming | .failed => (t.armPass z s.time, [])
  | .live | .holding | .stale => t.creditPass z h

/-- The zone goes to FAILED (R72): attention, and its heater off at once if it was allowed (R87). -/
def State.failZone (z : Nat) (s : State) : State :=
  let was := (s.zone z).state
  let s := (s.modZone z fun r => { r with state := .failed }).noteZone z
  if z < Config.bedZones ∧ was.trusted then s.forceZones [z] else s

/-- A fault sample (R72). -/
def State.faultSample (z : Nat) (s : State) : State × List Nat :=
  let r := s.zone z
  let h : HandOver := ⟨s.time, r.lastArrival, r.gap, r.lastGood, r.lastGood⟩
  let t := s.modZone z fun r => { r with lastArrival := s.time }
  match r.state with
  | .idle | .failed => (t, [])
  | .arming => if r.faultRun < 3 then (t.modZone z fun r => { r with faultRun := r.faultRun + 1 }, []) else (t.failZone z, [])
  | .live | .holding | .stale =>
    if r.faultRun < 3 then
      (t.modZone z fun r => { r with faultRun := r.faultRun + 1, state := .holding }).creditPass z h
    else (t.failZone z, [])

/-- HU takes a sample for a zone whole (R73); what is handed to MS is left to the caller (R66). -/
def State.takeSample (z : Nat) (value : Word) (s : State) : State × List Nat :=
  if value = Config.faultCode then s.faultSample z else s.goodSample z (clampTemp value.toInt)

/-! ### Mix commands -/

/-- Rising maturities and not falling strengths along a curve (R46, steps 3 and 4). -/
def rising : List Nat → Bool
  | a :: b :: rest => a < b && rising (b :: rest)
  | _ => true

def notFalling : List Nat → Bool
  | a :: b :: rest => a ≤ b && notFalling (b :: rest)
  | _ => true

/-- The curve points of LOAD_MIX as numbers. -/
def mixCurve (a : MixArgs) : Vector (Nat × Nat) 8 := a.points.map fun e => (e.1.toNat, e.2.toNat)

/-- LOAD_MIX (R46, R47). -/
def execLoadMix (mix : Word) (args : MixArgs) (s : State) : Host.Outcome State Fault Refusal :=
  hostStep (.loadMix mix args) 0x08 (checked
    (fun s => guardAll [
      (mix.toNat < Config.mixes && withinInt (-200) 100 args.t0.toInt && withinInt 400 800 args.tmax.toInt
        && within 1 255 args.limit.toNat && (mixCurve args).toList.all (fun e => e.1 ≤ Config.maturityMax && e.2 ≤ 1200)
        && args.strip.toNat ≤ 1200 && args.release.toNat ≤ 1200 && args.dispatch.toNat ≤ 1200, .range),
      (((mixCurve args).toList.map (·.1)).head? == some 0, .range),
      (rising ((mixCurve args).toList.map (·.1)), .range),
      (notFalling ((mixCurve args).toList.map (·.2)), .range),
      (args.strip.toNat ≤ args.release.toNat && args.release.toNat ≤ args.dispatch.toNat, .range),
      ((s.mix mix.toNat).inUse == 0, .inUse)])
    (fun _ s => (s.modMix mix.toNat fun r =>
      { r with
        loaded := true
        t0 := args.t0.toInt
        tmax := args.tmax.toInt
        limit := args.limit.toNat
        curve := mixCurve args
        strip := args.strip.toNat
        release := args.release.toNat
        dispatch := args.dispatch.toNat }, .done []))) s

/-- The data words of READ_MIX (R48, section 11.5.4). -/
def Mix.words (x : Mix) : List DataWord :=
  [packed [(15, 1, bit x.loaded), (0, 11, x.inUse)], tempWord x.t0, tempWord x.tmax, fullWord x.limit]
    ++ (x.curve.toList.flatMap fun e => idWords e.1 ++ [fullWord e.2])
    ++ [fullWord x.strip, fullWord x.release, fullWord x.dispatch]

/-- READ_MIX (R48). -/
def execReadMix (mix : Word) (s : State) : Host.Outcome State Fault Refusal :=
  hostStep (.readMix mix) 0x09 (readOnly fun s =>
    if mix.toNat < Config.mixes then .done (s.mix mix.toNat).words else .failed .range) s

end Sys2Proof.Machine
end

