-- ==== Sys2Proof/Machine/Stock.lean ====
section
/-! DEFINITION. The Stock Map (chapter 5): slots, stacks, the slot search and the explicit test, reservations, landings and
departures, the load bays; and the meanings of its commands that hand nothing to the Move Scheduler. -/

namespace Sys2Proof.Machine

/-- The key of a slot; keys rise by row, then stack, then tier. -/
def slotKey (r st t : Nat) : Nat := (r * 32 + st) * 8 + t
/-- The key of a stack. -/
def stackKey (r st : Nat) : Nat := r * 32 + st

/-- The cell of a slot: none where it is FREE (R94). -/
def Block.cell (b : Block) (r st t : Nat) : Option Cell := tget b.slots (slotKey r st t)

/-- A slot lies within the block (section 5.1). -/
def Block.within (b : Block) (r st t : Nat) : Bool := b.defined && r < b.rows && st < b.perRow && t < b.tiers

/-- A cell is OCCUPIED. -/
def Cell.isOccupied : Cell → Bool
  | .occupied _ => true
  | _ => false

/-- A cell is RESERVED. -/
def Cell.isReserved : Cell → Bool
  | .reserved _ => true
  | _ => false

/-- A cell is OUT. -/
def Cell.isOut : Cell → Bool
  | .out => true
  | _ => false

/-- A slot is OCCUPIED. -/
def Block.occupied (b : Block) (r st t : Nat) : Bool := (b.cell r st t).any Cell.isOccupied

/-- The tiers above a tier of a stack, ascending. -/
def Block.above (b : Block) (t : Nat) : List Nat := (List.range b.tiers).filter (t < ·)

/-- The slot is OCCUPIED or RESERVED. -/
def Block.taken (b : Block) (r st t : Nat) : Bool := (b.cell r st t).any fun c => c.isOccupied || c.isReserved

/-- Write the cell of a slot, or free it. -/
def Block.setCell (r st t : Nat) (c : Option Cell) (b : Block) : Block :=
  { b with slots := match c with
      | some c => tput b.slots (slotKey r st t) c
      | none => tdel b.slots (slotKey r st t) }

/-- Write the footprint of a stack, or none (R97). -/
def Block.setFootprint (r st : Nat) (f : Option Nat) (b : Block) : Block :=
  { b with footprints := match f with
      | some f => tput b.footprints (stackKey r st) f
      | none => tdel b.footprints (stackKey r st) }

/-- The footprint of a stack (R97). -/
def Block.footprint (b : Block) (r st : Nat) : Option Nat := tget b.footprints (stackKey r st)

/-- The closed mark of a stack (R98). -/
def Block.isClosed (b : Block) (r st : Nat) : Bool := b.closed.contains (stackKey r st)

/-! ### Search and test (R99 to R101) -/

/-- An OCCUPIED slot's piece is a base in flight (R100): its live order is QUEUED, OFFERED or WORKING, or UNRESOLVED.
The piece stands in the slot, so its order's HOOKED has not been taken and the slot is its source. -/
def State.inFlight (s : State) (id : Nat) : Bool :=
  match s.piece id with
  | none => false
  | some p => match s.liveOrder p with
    | some (_, o) => o.state == .queued || o.state.inLift
    | none => false

/-- A slot can bear a piece above it: RESERVED, or OCCUPIED and not a base in flight (R100). -/
def State.bears (s : State) (k r st t : Nat) : Bool :=
  match (s.block k).cell r st t with
  | some (.occupied id) => !s.inFlight id
  | some (.reserved _) => true
  | _ => false

/-- The footprint of the piece of the order a handle names. -/
def State.orderFootprint (s : State) (h : Handle) : Option Nat :=
  match s.order h.slot with
  | some o => (s.piece o.piece).map (·.footprint)
  | none => none

/-- Each RESERVED slot above tier 0 of a stack is reserved for a piece of the footprint (R100). -/
def State.claimsMatch (s : State) (k r st f : Nat) : Bool :=
  ((s.block k).above 0).all fun t => match (s.block k).cell r st t with
    | some (.reserved h) => s.orderFootprint h == some f
    | _ => true

/-- The conditions of R100 for one slot, but for the excluded set. -/
def State.admits (s : State) (k r st t f : Nat) : Bool :=
  let b := s.block k
  (b.cell r st t).isNone && !b.isClosed r st
    && (if t = 0 then s.claimsMatch k r st f else s.bears k r st (t - 1) && b.footprint r st == some f)

/-- The explicit test (R101). -/
def State.explicitTest (s : State) (k r st t f : Nat) : Bool := (s.block k).within r st t && s.admits k r st t f

/-- The first candidate stack at a tier of a row (R100). -/
def State.candidate (s : State) (k f : Nat) (excluded : List (Nat × Nat)) (r t : Nat) : Option (Nat × Nat × Nat) :=
  ((List.range (s.block k).perRow).find? fun st => s.admits k r st t f && !excluded.contains (r, st)).map
    fun st => (r, st, t)

/-- The tiers in the order the search tries them: 1 to T − 1, then 0 (R99). -/
def searchTiers (tiers : Nat) : List Nat := (List.range tiers).tail ++ (List.range tiers).take 1

/-- The slot search (R99): row, stack and tier. -/
def State.search (s : State) (k f : Nat) (excluded : List (Nat × Nat)) : Option (Nat × Nat × Nat) :=
  if (s.block k).defined then
    (List.range (s.block k).rows).findSome? fun r =>
      (searchTiers (s.block k).tiers).findSome? fun t => s.candidate k f excluded r t
  else none

/-! ### Changes of a slot (R102, R105, R106) -/

/-- A slot becomes RESERVED for an order; at tier 0 the stack takes the piece's footprint (R102). -/
def State.reserveSlot (k r st t : Nat) (h : Handle) (f : Nat) (s : State) : State :=
  s.modBlock k fun b =>
    let b := b.setCell r st t (some (.reserved h))
    if t = 0 then b.setFootprint r st (some f) else b

/-- A slot becomes FREE; at tier 0 the stack's footprint becomes none. -/
def State.freeSlot (k r st t : Nat) (s : State) : State :=
  s.modBlock k fun b =>
    let b := b.setCell r st t none
    if t = 0 then b.setFootprint r st none else b

/-- A slot becomes OCCUPIED; the block's first occupant arms its ambient zone (R93, R105). -/
def State.occupySlot (k r st t id : Nat) (s : State) : State :=
  let first := !(s.block k).hasOccupant
  let s := s.modBlock k (Block.setCell r st t (some (.occupied id)))
  if first then s.armZones [Config.bedZones + k] else s

/-- A piece leaves a slot; the block's last occupant idles its ambient zone (R93, R106). -/
def State.departSlot (k r st t : Nat) (s : State) : State :=
  let s := s.freeSlot k r st t
  if (s.block k).hasOccupant then s else s.idleAmbient k

/-- A stock slot can take a piece back after a hooked lift (R106). -/
def State.canReturn (s : State) (k r st t f : Nat) : Bool :=
  s.explicitTest k r st t f && (t = 0 || (s.block k).occupied r st (t - 1))

/-! ### Load bays (R107, R108) -/

/-- A piece joins a bay's set. -/
def State.bayJoin (b id : Nat) (s : State) : State := s.modBay b fun r => { r with pieces := sinsert id r.pieces }
/-- A piece leaves a bay's set and its place is given up. -/
def State.bayLeave (b id : Nat) (s : State) : State :=
  s.modBay b fun r => { r with pieces := serase id r.pieces, count := r.count - 1 }

/-! ### Commands -/

/-- FIND_SLOT (R109). R109 gives no order between its refusals: RANGE comes before NOT_FOUND (DESIGN CHOICE, log 39). -/
def execFindSlot (block footprint : Byte) (s : State) : Host.Outcome State Fault Refusal :=
  hostStep (.findSlot block footprint) 0x24 (readOnly fun s =>
    match firstFailing [
      (block.toNat < Config.blocks && footprint.toNat < 16, .range),
      ((s.block block.toNat).defined, .notFound)] with
    | some r => .failed r
    | none => match s.search block.toNat footprint.toNat [] with
      | some (r, st, t) => .done (locWords (.stock block.toNat r st t))
      | none => .failed .noSlot) s

/-- The two words of a map: stack 0 in bit 15 of the first (section 11.5.5). -/
def mapWords (p : Nat → Bool) : List DataWord :=
  [packed ((List.range 16).map fun i => (15 - i, 1, bit (p i))),
    packed ((List.range 16).map fun i => (15 - i, 1, bit (p (16 + i))))]

/-- The data words of READ_ROW (R110, section 11.5.5); entries beyond the stacks per row read 0. -/
def Block.rowWords (b : Block) (r : Nat) : List DataWord :=
  [byteWord b.rows b.perRow, fullWord b.tiers]
    ++ ((List.range b.tiers).flatMap fun t =>
      mapWords (fun st => st < b.perRow && (b.cell r st t).any Cell.isOccupied)
        ++ mapWords (fun st => st < b.perRow && (b.cell r st t).any Cell.isReserved)
        ++ mapWords (fun st => st < b.perRow && (b.cell r st t).any Cell.isOut))
    ++ (List.range b.perRow).map fun st => match b.footprint r st with
      | some f => packed [(0, 4, f), (4, 1, 1), (8, 1, bit (b.isClosed r st))]
      | none => packed [(4, 1, 0), (8, 1, bit (b.isClosed r st))]

/-- READ_ROW (R110); its refusals in the order R110 names them (DEDUCED, log 39). -/
def execReadRow (block row : Byte) (s : State) : Host.Outcome State Fault Refusal :=
  hostStep (.readRow block row) 0x23 (readOnly fun s =>
    match firstFailing [
      (block.toNat < Config.blocks, .range),
      ((s.block block.toNat).defined, .notFound),
      (row.toNat < (s.block block.toNat).rows, .range)] with
    | some r => .failed r
    | none => .done ((s.block block.toNat).rowWords row.toNat)) s

/-- How many slots of a range of rows have a cell of a kind. -/
def Block.countRows (b : Block) (first last : Nat) (p : Cell → Bool) : Nat :=
  (b.slots.filter fun e => first ≤ e.1 / 256 && e.1 / 256 ≤ last && p e.2).length

/-- QUERY_EMPTY, block form (R113); its refusals in the order R113 names them (DEDUCED, log 39). -/
def execQueryEmptyBlock (block : BitVec 4) (first last : Byte) (s : State) : Host.Outcome State Fault Refusal :=
  hostStep (.queryEmptyBlock block first last) 0x27 (readOnly fun s =>
    let b := s.block block.toNat
    match firstFailing [
      (block.toNat < Config.blocks, .range),
      (b.defined, .notFound),
      (first.toNat ≤ last.toNat && last.toNat < b.rows, .range)] with
    | some r => .failed r
    | none =>
      let occupied := b.countRows first.toNat last.toNat Cell.isOccupied
      let reserved := b.countRows first.toNat last.toNat Cell.isReserved
      .done (emptyWords (occupied == 0 && reserved == 0) occupied reserved
        (b.countRows first.toNat last.toNat Cell.isOut))) s

/-- The slot that SLOT_OUT and SLOT_IN name, checked (R111, R185). -/
def State.findSlotArg (s : State) (loc : LocBits) : Except Reason (Nat × Nat × Nat × Nat) :=
  match locArg loc with
  | .place (.stock k r st t) =>
    match firstFailing [
      (k < Config.blocks, .range), ((s.block k).defined, .notFound), ((s.block k).within r st t, .range)] with
    | some e => .error e
    | none => .ok (k, r, st, t)
  | _ => .error .range

/-- SLOT_OUT (R111). -/
def execSlotOut (loc : LocBits) (s : State) : Host.Outcome State Fault Refusal :=
  hostStep (.slotOut loc) 0x25 (checked
    (fun s => match s.findSlotArg loc with
      | .error e => .error e
      | .ok (k, r, st, t) =>
        (guardAll [
          (((s.block k).cell r st t).isNone, .occupied),
          (((s.block k).above t).all (fun t => ((s.block k).cell r st t).isNone), .occupied)]).map
            fun _ => (k, r, st, t))
    (fun (k, r, st, t) s => (s.modBlock k (Block.setCell r st t (some .out)), .done []))) s

end Sys2Proof.Machine
end

