-- ==== Sys2Proof/Machine/Link.lean ====
section
/-! DEFINITION. The Field Link Controller's slots and transmitter (R194, R195): placing and withdrawing a crane's messages,
and which message is offered to the bus; and a crane's effective mode (R177), which decides the control messages. -/

namespace Sys2Proof.Machine

/-! ### Effective mode -/

/-- The entry of a crane's mode table for a plant mode (section 8.1). -/
def ModeTable.entry (t : ModeTable) : PlantMode → CraneMode
  | .production => t.production
  | .cureOnly => t.cureOnly
  | .standby => t.standby

/-- A crane's effective mode (R177). -/
def State.effMode (s : State) (c : Nat) : CraneMode :=
  if s.yardStop then .stop else (s.crane c).modes.entry s.mode

/-! ### Messages -/

/-- The identifier of a message of the part (section 11.3). -/
def TxMessage.ident : TxMessage → Nat
  | .control c _ => 0x0C0 + c
  | .lift c _ => 0x100 + c

/-- The three bytes of a location in a field message, bytes 0, 1 and 2 (section 11.5.1), each with its named bits. -/
def locBytes (l : Loc) : List DataWord :=
  match l with
  | .none => [packed [(0, 8, 0)], packed [(0, 8, 0)], packed [(0, 8, 0)]]
  | .bed b p => [packed [(0, 8, 1 * 32 + b)], packed [(0, 8, p)], packed [(0, 8, 0)]]
  | .hook c => [packed [(0, 8, 2 * 32 + c)], packed [(0, 8, 0)], packed [(0, 8, 0)]]
  | .stock k r st t => [packed [(0, 8, 3 * 32 + k)], packed [(4, 4, r), (0, 3, t)], packed [(0, 8, st)]]
  | .bay b => [packed [(0, 8, 4 * 32 + b)], packed [(0, 8, 0)], packed [(0, 8, 0)]]

/-- The data bytes of a message (section 11.3): the control code, or slot, tag, source and destination. -/
def TxMessage.bytes : TxMessage → List DataWord
  | .control _ m => [packed [(0, 8, m.code)]]
  | .lift _ l => [packed [(0, 8, l.slot)], packed [(0, 8, l.tag)]] ++ locBytes l.source ++ locBytes l.dest

/-! ### Slots (R194) -/

def State.modLink (f : Link → Link) (s : State) : State := { s with link := f s.link }

/-- Every slot empty and nothing on the bus (R192, R194, R196). -/
def Link.emptied (l : Link) : Link := { l with slots := Vector.replicate 4 {}, onBus := none }

/-- The message on the bus no longer stands in its slot (R194). -/
def Link.outdate (ident : Nat) (l : Link) : Link :=
  { l with onBus := l.onBus.map fun m => (m.1, m.2 || m.1.ident == ident) }

/-- Take an unsent LIFT out of a crane's instruction slot (R194). -/
def Link.withdrawLift (c : Nat) (l : Link) : Link :=
  { l.outdate (0x100 + c) with slots := vmod l.slots c fun e => { e with lift := none } }

/-- Place a LIFT in a crane's instruction slot (R153, R194); while the link is not UP every slot is left empty. -/
def Link.placeLift (c : Nat) (x : Lift) (l : Link) : Link :=
  if l.state = .up then { l.outdate (0x100 + c) with slots := vmod l.slots c fun e => { e with lift := some x } }
  else l.emptied

/-- Place a control message in a crane's control slot; a STOP also withdraws an unsent LIFT (R194). -/
def Link.placeControl (c : Nat) (m : CraneMode) (l : Link) : Link :=
  if l.state = .up then
    let l := { l.outdate (0x0C0 + c) with slots := vmod l.slots c fun e => { e with control := some m } }
    if m = .stop then l.withdrawLift c else l
  else l.emptied

/-! ### The transmitter (R195) -/

/-- The unsent messages in rising order of identifier: control slots, then instruction slots, by crane. -/
def Link.waiting (l : Link) : List TxMessage :=
  ((List.range 4).filterMap fun c => (vget l.slots c).control.map (TxMessage.control c))
    ++ (List.range 4).filterMap fun c => (vget l.slots c).lift.map (TxMessage.lift c)

/-- A free transmitter of an UP link offers the waiting message of lowest identifier (R195). -/
def Link.offerBus (l : Link) : Link :=
  if l.state = .up ∧ l.onBus = none then { l with onBus := l.waiting.head?.map fun m => (m, false) } else l

/-- Empty the slot a message stands in. -/
def Link.clearSlot (m : TxMessage) (l : Link) : Link :=
  match m with
  | .control c _ => { l with slots := vmod l.slots c fun e => { e with control := none } }
  | .lift c _ => { l with slots := vmod l.slots c fun e => { e with lift := none } }

/-- TRANSMIT_ACKNOWLEDGED (R194, R195): the message leaves its slot unless a newer one has taken it. -/
def execTransmitAcknowledged (s : State) : Host.Outcome State Fault Refusal :=
  .next (s.modLink fun l => match l.onBus with
    | some (m, stale) => (if stale then { l with onBus := none } else ({ l with onBus := none } : Link).clearSlot m).offerBus
    | none => l)

/-- TRANSMISSION_FAILED (R194, R195): the slots stand, and the lowest identifier now waiting is offered. -/
def execTransmissionFailed (s : State) : Host.Outcome State Fault Refusal :=
  .next (s.modLink fun l => match l.onBus with
    | some _ => ({ l with onBus := none } : Link).offerBus
    | none => l)

end Sys2Proof.Machine
end

