-- ==== Sys2Proof/Machine/Scheduler.lean ====
section
/-! DEFINITION. The Move Scheduler (chapter 6): a step's work list of hand-overs, evaluation, the dig rule, creation,
reservations and their release, closed marks, re-evaluation and selection. -/

namespace Sys2Proof.Machine

/-! ### A step's work (R118, R124, R130) -/

/-- A slot of a stock block. -/
structure SlotRef where
  block : Nat
  row : Nat
  stack : Nat
  tier : Nat
deriving DecidableEq, Repr, Inhabited

/-- What one block hands MS in a step (R95, R124). -/
inductive Cause where
  /-- A slot became FREE (R95). -/
  | slotFreed (at_ : SlotRef)
  /-- A slot became RESERVED (R124). -/
  | slotReserved (block : Nat)
  /-- A slot became OCCUPIED: a filled base (R104). -/
  | slotFilled (at_ : SlotRef)
  /-- A landing, hook or departure in a stack (R105, R106). -/
  | stackEvent (block row stack : Nat)
  /-- A closed mark of the block cleared (R126). -/
  | markCleared (block : Nat)
  /-- A slot of the block stopped being a base in flight (R124). -/
  | flightEnded (block : Nat)
  /-- The block was redefined: all its slots became FREE (R92). -/
  | blockRedefined (block : Nat)
  /-- A bay's count fell (R108). -/
  | bayFell (bay : Nat)
  /-- An order ended: every DIG_BLOCKED order (R132). -/
  | orderEnded
  /-- A rehandle ended: its parent (R129). -/
  | parentOf (parent : Handle)
  /-- A record left its slot (R135). -/
  | recordFreed
  /-- A CRANE_SETUP was taken (R149). -/
  | craneSetup
  /-- A piece latched a gate or became LIFTABLE by DETENSIONED (R34, R66). -/
  | pieceListed (id : Nat)
deriving DecidableEq, Repr

/-- A step in progress: the state, the causes handed and not yet taken (each with the orders under whose evaluation it
was handed, R124), the cranes to select for at the end of the step (R130), the orders that have taken a new
reservation in this step (R124), the orders now under evaluation, and the slots freed whose re-searches are due, each with
the orders that lost their reservations with it (R103, R125). -/
structure Work where
  s : State
  causes : List (Cause × List Nat) := []
  select : List Nat := []
  took : List Nat := []
  under : List Nat := []
  released : List (SlotRef × List Nat) := []

/-- Change the state of a step in progress. -/
def Work.on (f : State → State) (w : Work) : Work := { w with s := f w.s }

/-- Hand MS a cause. -/
def Work.hand (c : Cause) (w : Work) : Work := { w with causes := w.causes ++ [(c, w.under)] }

/-- A selection is to be made for a crane at the end of the step (R130). -/
def Work.wantSelection (c : Nat) (w : Work) : Work := { w with select := sinsert c w.select }

/-! ### Areas and reach (R121, R148) -/

def Reach.hasBed (r : Reach) (b : Nat) : Bool := r.beds.getLsbD b
def Reach.hasBlock (r : Reach) (k : Nat) : Bool := r.blocks.getLsbD k
def Reach.hasBay (r : Reach) (b : Nat) : Bool := r.bays.getLsbD b

/-- The reach covers the area of a location. -/
def Reach.coversLoc (r : Reach) : Loc → Bool
  | .bed b _ => r.hasBed b
  | .stock k _ _ _ => r.hasBlock k
  | .bay b => r.hasBay b
  | _ => false

/-- The reach covers a destination area. -/
def Reach.coversDest (r : Reach) : Dest → Bool
  | .auto k _ => r.hasBlock k
  | .slot k _ _ _ => r.hasBlock k
  | .bay b => r.hasBay b

/-- The reach covers the source area of a piece: its location, or the home bed while it is DECLARED (R121). -/
def Reach.coversPiece (r : Reach) (p : Piece) : Bool :=
  match p.loc with
  | .none => r.hasBed p.homeBed
  | l => r.coversLoc l

/-- The lowest-numbered crane whose reach meets a condition. -/
def State.lowestCrane (s : State) (p : Reach → Bool) : Option Nat :=
  (List.range Config.cranes).find? fun c => p (s.crane c).reach

/-- The crane of a new order (R121): the one named (0 to 3), or the lowest-numbered that covers both areas. -/
def State.chooseCrane (s : State) (named : Option Nat) (p : Piece) (d : Dest) : Option Nat :=
  match named with
  | some c => if (s.crane c).reach.coversPiece p && (s.crane c).reach.coversDest d then some c else none
  | none => s.lowestCrane fun r => r.coversPiece p && r.coversDest d

/-! ### Closed marks (R126) -/

/-- The states in which a pick holds its stack closed (R98, R126). -/
def OrderState.closes : OrderState → Bool
  | .waiting .buried => true
  | .waiting .digBlocked => true
  | .queued => true
  | _ => false

/-- The stock slot an order picks from: a move or dispatch whose piece stands in stock (R122). -/
def State.pickSlot (s : State) (o : Order) : Option SlotRef :=
  if o.kind = .rehandle then none
  else match (s.piece o.piece).map (fun p => p.loc) with
    | some (Loc.stock k r st t) => some ⟨k, r, st, t⟩
    | _ => none

/-- Some pick with its source in the stack is WAITING(BURIED), WAITING(DIG_BLOCKED) or QUEUED. -/
def State.stackHeldClosed (s : State) (k r st : Nat) : Bool :=
  s.records.any fun e => e.2.state.closes && match s.pickSlot e.2 with
    | some x => x.block == k && x.row == r && x.stack == st
    | none => false

/-- The test of a stack's closed mark (R126); clearing it hands MS the block. -/
def Work.testMark (k r st : Nat) (w : Work) : Work :=
  let want := w.s.stackHeldClosed k r st
  let have_ := (w.s.block k).isClosed r st
  if want && !have_ then w.on (State.modBlock k fun b => { b with closed := sinsert (stackKey r st) b.closed })
  else if !want && have_ then
    (w.on (State.modBlock k fun b => { b with closed := serase (stackKey r st) b.closed })).hand (.markCleared k)
  else w

/-- The test of the closed mark of the stack an order picks from. -/
def Work.testPick (o : Order) (w : Work) : Work :=
  match w.s.pickSlot o with
  | some x => w.testMark x.block x.row x.stack
  | none => w

/-- An order enters a state, and the mark of a pick's stack is tested (R126); nothing where it is in it already. -/
def Work.setOrderState (slot : Nat) (st : OrderState) (w : Work) : Work :=
  match w.s.order slot with
  | none => w
  | some o =>
    if o.state = st then w
    else (w.on (State.modOrder slot fun o => { o with state := st })).testPick o

/-! ### Reservations (R102, R103, R107, R108) -/

/-- A stock reservation is made for an order (R102). -/
def Work.reserve (slot k r st t : Nat) (w : Work) : Work :=
  match w.s.order slot with
  | none => w
  | some o =>
    let f := ((w.s.piece o.piece).map (·.footprint)).getD 0
    let w := w.on fun s => (s.reserveSlot k r st t (o.handle slot) f).modOrder slot fun o =>
      { o with reserved := some (.stock k r st t) }
    { w with took := sinsert slot w.took }.hand (.slotReserved k)

/-- A destination is AUTO. -/
def Dest.isAuto : Dest → Bool
  | .auto _ _ => true
  | _ => false

/-- Release an order's stock reservation and, in turn, those of the AUTO orders reserved above it; an explicit order
above keeps its claim and waits in BASE (R103). Yields the slots freed and the AUTO orders above, lowest first. -/
def Work.releaseUp : Nat → Nat → Work → Work × List SlotRef × List Nat
  | 0, _, w => (w, [], [])
  | n + 1, slot, w =>
    match (w.s.order slot).bind (·.reserved) with
    | some (.stock k r st t) =>
      let w := w.on fun s => (s.freeSlot k r st t).modOrder slot fun o => { o with reserved := none }
      match (w.s.block k).cell r st (t + 1) with
      | some (.reserved h) =>
        match w.s.order h.slot with
        | some o =>
          if o.dest.isAuto then
            let (w, freed, again) := Work.releaseUp n h.slot w
            (w, ⟨k, r, st, t⟩ :: freed, h.slot :: again)
          else
            (match o.state with
              | .waiting _ => w.setOrderState h.slot (.waiting .base)
              | _ => w, [⟨k, r, st, t⟩], [])
        | none => (w, [⟨k, r, st, t⟩], [])
      | _ => (w, [⟨k, r, st, t⟩], [])
    | _ => (w, [], [])

/-! ### Evaluation (R122, R123) -/

/-- The order goes QUEUED, and its crane is to select (R130). -/
def Work.queueOrder (slot : Nat) (w : Work) : Work :=
  match w.s.order slot with
  | none => w
  | some o => (w.setOrderState slot .queued).wantSelection o.crane

/-- The base check (R104, R122): a reserved stock slot above tier 0 needs an OCCUPIED base. -/
def Work.baseCheck (slot : Nat) (w : Work) : Work :=
  match (w.s.order slot).bind (·.reserved) with
  | some (.stock k r st t) =>
    if t = 0 || (w.s.block k).occupied r st (t - 1) then w.queueOrder slot else w.setOrderState slot (.waiting .base)
  | _ => w.queueOrder slot

/-- The stacks an AUTO order's search leaves out: its source stack in stock, and its own exclusion (R99, R122). A source
stack of another block than the one searched leaves nothing out, which is the model's choice (DESIGN CHOICE, log 34). -/
def excludedStacks (p : Piece) (own : Option (Nat × Nat)) (block : Nat) : List (Nat × Nat) :=
  (match p.loc with
    | .stock k r st _ => if k = block then [(r, st)] else []
    | _ => []) ++ own.toList

/-- The destination check (R122), then the base check; an order takes at most one new reservation in a step (R124, log 14). -/
def Work.claim (slot : Nat) (o : Order) (p : Piece) (w : Work) : Work :=
  match o.reserved, o.dest with
  | some _, _ => w.baseCheck slot
  | none, .auto k ex =>
    match if w.took.contains slot then none else w.s.search k p.footprint (excludedStacks p ex k) with
    | some (r, st, t) => (w.reserve slot k r st t).baseCheck slot
    | none => w.setOrderState slot (.waiting .noSlot)
  | none, .slot k r st t =>
    if !w.took.contains slot && w.s.explicitTest k r st t p.footprint then (w.reserve slot k r st t).baseCheck slot
    else w.setOrderState slot (.waiting .noSlot)
  | none, .bay b =>
    if !w.took.contains slot && (w.s.bay b).count < Config.bayRoom then
      let w := w.on fun s => (s.modBay b fun r => { r with count := r.count + 1 }).modOrder slot fun o =>
        { o with reserved := some (.bay b) }
      { w with took := sinsert slot w.took }.queueOrder slot
    else w.setOrderState slot (.waiting .bayFull)

/-- Something stands or is claimed above a piece in stock (R122). -/
def State.buried (s : State) (p : Piece) : Bool :=
  match p.loc with
  | .stock k r st t => ((s.block k).above t).any fun t => (s.block k).taken r st t
  | _ => false

/-- An evaluation (R122): the checks in order, the first that fails naming the wait reason. Given are how an evaluation
that stops at the stage or burial check releases what the order holds (R123), and what a buried pick then does (R127). -/
def Work.evaluateWith (release : Nat → Work → Work) (dig : Nat → Order → Work → Work) (slot : Nat) (w : Work) : Work :=
  match w.s.order slot with
  | none => w
  | some o =>
    match w.s.piece o.piece with
    | none => w
    | some p =>
      let outer := w.under
      let w := { w with under := slot :: outer }
      let w :=
        if p.stage ≠ .liftable then release slot (w.setOrderState slot (.waiting .notLiftable))
        else if w.s.buried p then
          let w := release slot (w.setOrderState slot (if o.state = .waiting .digBlocked then o.state else .waiting .buried))
          if o.kind = .rehandle then w else dig slot o w
        else w.claim slot o p
      { w with under := outer }

/-- The lowest-numbered record slot that holds no record (R115). -/
def State.freeRecord (s : State) : Option Nat :=
  (List.range Config.orderSlots).find? fun i => (s.order i).isNone

/-- A creation (R118): the lowest free slot, its tag advanced, the next sequence, the piece bound, an explicit slot
reserved, and the order PARKED or evaluated. Nothing where no slot is free. -/
def Work.createWith (evaluate : Nat → Work → Work) (proto : Order) (w : Work) : Work × Option Nat :=
  match w.s.freeRecord with
  | none => (w, none)
  | some slot =>
    let tag := (vget w.s.tags slot + 1) % 256
    let o := { proto with tag := tag, sequence := w.s.counter }
    let w := w.on fun s =>
      ({ s with
        tags := vset s.tags slot tag
        counter := (s.counter + 1) % Config.count32
        orders := tput s.orders slot o }).modPiece o.piece fun p => { p with order := some ⟨slot, tag⟩ }
    if o.cls = 0 then (w, some slot)
    else
      let w := match o.dest with
        | .slot k r st t => w.reserve slot k r st t
        | _ => w
      (evaluate slot w, some slot)

/-! ### The dig rule (R127, R128) -/

/-- What an evaluation of an order that holds no claim releases: nothing. -/
def noRelease (_ : Nat) (w : Work) : Work := w

/-- What a rehandle's own evaluation does where it is buried: it waits (R122). -/
def noDig (_ : Nat) (_ : Order) (w : Work) : Work := w

/-- A rehandle for a piece above a pick (R128); none where it cannot be created. -/
def Work.createRehandle (parent : Nat) (po : Order) (x : SlotRef) (id : Nat) (p : Piece) (w : Work) : Option Work :=
  let crane := if (w.s.crane po.crane).reach.hasBlock x.block then some po.crane
    else w.s.lowestCrane fun r => r.hasBlock x.block
  match w.s.freeRecord, crane, w.s.search x.block p.footprint [(x.row, x.stack)] with
  | some _, some c, some _ =>
    some (w.createWith (Work.evaluateWith noRelease noDig)
      { tag := 0, sequence := 0, kind := .rehandle, origin := .rehandle (po.handle parent), piece := id, cls := 2,
        key := po.key, crane := c, dest := .auto x.block (some (x.row, x.stack)) }).1
  | _, _, _ => none

/-- The OCCUPIED tiers above a slot from the top down, as far as rehandles can be created (R127); false at the first
that cannot. -/
def Work.digTiers (parent : Nat) (po : Order) (x : SlotRef) : List Nat → Work → Work × Bool
  | [], w => (w, true)
  | t :: rest, w =>
    match (w.s.block x.block).cell x.row x.stack t with
    | some (.occupied id) =>
      match w.s.piece id with
      | none => Work.digTiers parent po x rest w
      | some p =>
        if p.order.isSome then Work.digTiers parent po x rest w
        else match w.createRehandle parent po x id p with
          | some w => Work.digTiers parent po x rest w
          | none => (w, false)
    | _ => Work.digTiers parent po x rest w

/-- The dig pass of a buried pick (R127), the pick already waiting and its stack's mark set. -/
def Work.digPass (slot : Nat) (o : Order) (w : Work) : Work :=
  match w.s.pickSlot o with
  | none => w
  | some x =>
    let (w, through) := w.digTiers slot o x ((w.s.block x.block).above x.tier).reverse
    w.setOrderState slot (if through then .waiting .buried else .waiting .digBlocked)

/-! ### Releases and the re-searches they make (R103, R108, R123, R125) -/

/-- The AUTO orders waiting in BASE reserved above a tier of a stack, with their tiers, lowest first (R125). -/
def State.autoAbove (s : State) (x : SlotRef) : List (Nat × Nat) :=
  orderBy (·.2) (s.records.filterMap fun e =>
    match e.2.state, e.2.reserved with
    | .waiting .base, some (.stock k r st t) =>
      if e.2.dest.isAuto && k == x.block && r == x.row && st == x.stack && x.tier < t then some (e.1, t) else none
    | _, _ => none)

/-- A re-search (R123): the evaluation, from the first check, of an AUTO order left in BASE by the release of its
reservation. -/
def Work.searchAgain (slot : Nat) (w : Work) : Work :=
  match w.s.order slot with
  | some o =>
    if o.state = .waiting .base ∧ o.reserved = none then
      w.evaluateWith noRelease (fun slot o w => w.digPass slot o) slot
    else w
  | none => w

/-- MS is handed each slot freed (R95). -/
def Work.handFreed (freed : List SlotRef) (w : Work) : Work := freed.foldl (fun w x => w.hand (.slotFreed x)) w

/-- The re-searches that a freed slot makes: first the orders given, which a release took their reservations from (R103),
and then, one after the other, the AUTO orders that waited in BASE higher in the stack, each released with the chain above
it and searched again (R125). -/
def Work.searchFrom : Nat → SlotRef → List Nat → Work → Work
  | 0, _, _, w => w
  | n + 1, x, slots, w =>
    let above := w.s.autoAbove x
    let w := slots.foldl (fun w i => w.searchAgain i) w
    match above with
    | [] => w
    | (i, _) :: _ =>
      let (w, freed, again) := w.releaseUp 8 i
      Work.searchFrom n (freed.headD x) (i :: again) (w.handFreed freed)

/-- The re-searches that the slots freed so far in the step have made and that are not yet taken (R103, R125, log 35). -/
def Work.searchReleased (w : Work) : Work :=
  w.released.foldl (fun w e => w.searchFrom 8 e.1 e.2) { w with released := [] }

/-- A slot became FREE, and with it those above it that the release of its reservation freed: MS is handed them, lowest tier
first (R95, R103), and the re-searches are due. -/
def Work.slotsFree (freed : List SlotRef) (again : List Nat) (w : Work) : Work :=
  match freed with
  | [] => w
  | x :: _ => { w.handFreed freed with released := w.released ++ [(x, again)] }

/-- A slot became FREE other than by a release (R95, R125). -/
def Work.slotFree (x : SlotRef) (w : Work) : Work := w.slotsFree [x] []

/-- Release an order's stock reservation (R103). -/
def Work.releaseStock (slot : Nat) (w : Work) : Work :=
  let (w, freed, again) := w.releaseUp 8 slot
  w.slotsFree freed again

/-- Give up whatever an order holds at its destination: a stock reservation (R103) or a bay place (R108). -/
def Work.releaseClaim (slot : Nat) (w : Work) : Work :=
  match (w.s.order slot).bind (·.reserved) with
  | some (.stock _ _ _ _) => w.releaseStock slot
  | some (.bay b) =>
    (w.on fun s => (s.modBay b fun r => { r with count := r.count - 1 }).modOrder slot fun o =>
      { o with reserved := none }).hand (.bayFell b)
  | _ => w

/-- What an evaluation that stops at the stage or burial check releases: AUTO and bay claims, not an explicit slot (R123). -/
def Work.releaseUnkept (slot : Nat) (w : Work) : Work :=
  match (w.s.order slot).map (fun o => o.dest) with
  | some (Dest.slot _ _ _ _) => w
  | _ => w.releaseClaim slot

/-- The evaluation of an order (R122): a buried pick runs the dig rule. The re-searches that are due come before it, and
those of its own release before its dig pass (R123, log 35). -/
def Work.evaluate (slot : Nat) (w : Work) : Work :=
  w.searchReleased.evaluateWith (fun slot w => (w.releaseUnkept slot).searchReleased)
    (fun slot o w => w.digPass slot o) slot

/-- A creation by a command or a program (R118). -/
def Work.create (proto : Order) (w : Work) : Work × Option Nat := w.createWith Work.evaluate proto

/-! ### Re-evaluation (R124) -/

/-- The block of an order's stock destination. -/
def Dest.block? : Dest → Option Nat
  | .auto k _ => some k
  | .slot k _ _ _ => some k
  | .bay _ => none

/-- The block of the stock slot a piece stands in. -/
def Loc.block? : Loc → Option Nat
  | .stock k _ _ _ => some k
  | _ => Option.none

/-- The block an order waiting in DIG_BLOCKED picks from. -/
def State.sourceBlock (s : State) (o : Order) : Option Nat := (s.piece o.piece).bind (·.loc.block?)

/-- The piece of an order stands in a stack. -/
def State.inStack (s : State) (o : Order) (k r st : Nat) : Bool :=
  match (s.piece o.piece).map (fun p => p.loc) with
  | some (Loc.stock k' r' st' _) => k' == k && r' == r && st' == st
  | _ => false

/-- A change in a block concerns its NO_SLOT orders and, by its source's block, each DIG_BLOCKED order (R124). -/
def State.blockConcerns (s : State) (k : Nat) (o : Order) : Bool :=
  (o.state == .waiting .noSlot && o.dest.block? == some k)
    || (o.state == .waiting .digBlocked && s.sourceBlock o == some k)

/-- Whether a cause concerns the order in a slot (R124). -/
def State.concerns (s : State) (c : Cause) (slot : Nat) (o : Order) : Bool :=
  match c with
  | .slotFreed x => s.blockConcerns x.block o
  | .slotReserved k | .markCleared k | .flightEnded k | .blockRedefined k => s.blockConcerns k o
  | .slotFilled x =>
    (o.state == .waiting .base && o.reserved == some (.stock x.block x.row x.stack (x.tier + 1)))
      || s.blockConcerns x.block o
  | .stackEvent k r st =>
    (o.state == .waiting .buried || o.state == .waiting .digBlocked) && s.inStack o k r st
  | .bayFell b => o.state == .waiting .bayFull && o.dest == .bay b
  | .orderEnded | .recordFreed | .craneSetup => o.state == .waiting .digBlocked
  | .parentOf h =>
    h == o.handle slot && (o.state == .waiting .buried || o.state == .waiting .digBlocked)
  | .pieceListed id => o.state == .waiting .notLiftable && o.piece == id

/-- The slots of the orders a cause concerns, in ascending sequence (R116, R124); of two of equal sequence the higher slot
comes first (DESIGN CHOICE, log 40). -/
def State.concerned (s : State) (c : Cause) : List Nat :=
  (orderBy (fun e => e.2.sequence) (s.records.filter fun e => s.concerns c e.1 e.2)).map (·.1)

/-- Evaluate an order for a cause, if it still concerns it and was not handed under its own evaluation (R124). -/
def Work.evaluateFor (c : Cause) (exempt : List Nat) (slot : Nat) (w : Work) : Work :=
  match w.s.order slot with
  | some o => if !exempt.contains slot && w.s.concerns c slot o then w.evaluate slot else w
  | none => w

/-- MS takes one cause (R124): the orders it concerns, in ascending sequence. -/
def Work.takeCause (c : Cause) (exempt : List Nat) (w : Work) : Work :=
  (w.s.concerned c).foldl (fun w slot => w.evaluateFor c exempt slot) w

/-- MS takes the causes in the order in which they were handed, until none is left (R124, log 13). -/
def Work.drain : Nat → Work → Work
  | 0, w => w
  | n + 1, w =>
    match w.causes with
    | [] => w
    | (c, exempt) :: rest => Work.drain n ({ w with causes := rest }.takeCause c exempt)

/-! ### Selection (R130) -/

/-- The rank of a candidate, lower first: class, in class 2 the urgency key, then the sequence (R130). -/
def Order.rank (o : Order) : Nat := (o.cls * 65536 + if o.cls = 2 then o.key else 0) * Config.count32 + o.sequence

/-- A candidate for a crane's selection (R130). -/
def State.isCandidate (s : State) (c : Nat) (o : Order) : Bool :=
  o.state == .queued && o.crane == c && o.retry.isNone && match s.piece o.piece with
    | some p => (s.crane c).reach.coversLoc p.loc && (s.crane c).reach.coversDest o.dest
    | none => false

/-- The order a crane selects (R130); of two live candidates of equal rank, the one in the higher slot (R116; DESIGN
CHOICE, log 40). -/
def State.selected (s : State) (c : Nat) : Option (Nat × Order) :=
  (orderBy (fun e => e.2.rank) (s.records.filter fun e => s.isCandidate c e.2)).head?

/-- The LIFT instruction of an order (R153): the location fixed at selection, and the reserved slot or the bay. -/
def Order.lift (o : Order) (slot : Nat) : Lift := ⟨slot, o.tag, o.source, o.reserved.getD .none⟩

/-- The selected order is offered (R130, R153): it goes OFFERED with its source fixed, the mark of a pick's stack is
tested, and the crane gets the LIFT. -/
def Work.offer (c slot : Nat) (o : Order) (w : Work) : Work :=
  let source := ((w.s.piece o.piece).map (·.loc)).getD .none
  let w := w.on (State.modOrder slot fun o => { o with source := source })
  let w := w.setOrderState slot .offered
  w.on fun s =>
    (s.modCrane c fun r =>
      { r with state := .offered, order := some (o.handle slot), acceptTimer := 2, resent := false, hooked := false }).modLink
        (Link.placeLift c ({ o with source := source }.lift slot))

/-- The selection for one crane (R130): none unless it is IDLE with effective mode RUN. -/
def Work.selectFor (c : Nat) (w : Work) : Work :=
  if (w.s.crane c).state = .idle ∧ w.s.effMode c = .run then
    match w.s.selected c with
    | some (slot, o) => w.offer c slot o
    | none => w
  else w

/-- The end of a step: causes, then the selections asked for, crane by crane, until nothing is left (log 21). -/
def Work.rounds : Nat → Work → Work
  | 0, w => w.drain Config.chainBound
  | n + 1, w =>
    let w := w.drain Config.chainBound
    if w.select.isEmpty then w
    else Work.rounds n (w.select.foldl (fun w c => w.selectFor c) { w with select := [] })

/-- The end of a step of MS: the re-searches due, re-evaluations and selections (R118, R125, R132), then the transmitter's
offer (R195). -/
def Work.finish (w : Work) : State := (w.searchReleased.rounds 8).s.modLink Link.offerBus

/-- A step of MS begins on a state. -/
def State.work (s : State) : Work := { s := s }

end Sys2Proof.Machine
end

