-- ==== Sys2Proof/Machine/Programs.lean ====
section
/-! DEFINITION. How an order ends or returns to QUEUED (R132, R153), the Transfer Programs that take each ending (chapter
7), and the meanings of their commands. -/

namespace Sys2Proof.Machine

/-! ### Generation (R140, R141) -/

/-- A change of the state of a program that enters the program attention set: DONE sets the done flag (R146). -/
def State.settleProgram (n : Nat) (st : ProgramState) (s : State) : State :=
  (s.modProgram n fun p => { p with state := st, doneFlag := p.doneFlag || st == .done }).noteProgram n

/-- The slot of pattern index `k` (R140): row, stack, tier. -/
def Pattern.slot (x : Pattern) (k : Nat) : Nat × Nat × Nat :=
  (x.startRow + x.rowStride * (k / (x.n1 * x.n2)), x.startStack + x.stackStride * (k / x.n1 % x.n2),
    x.startTier + k % x.n1)

/-- The position of item `i` (section 7.1). -/
def Program.position (p : Program) (i : Nat) : Nat := if p.backwards then p.first - i else p.first + i

/-- The destination of the piece a program places next (R140). -/
def Program.dest (p : Program) : Dest :=
  match p.pattern with
  | none => .auto p.block none
  | some x => .slot p.block (x.slot p.placed).1 (x.slot p.placed).2.1 (x.slot p.placed).2.2

/-- A destination passes the slot step of a generation (R141, step 3): AUTO always. -/
def State.destPasses (s : State) (d : Dest) (f : Nat) : Bool :=
  match d with
  | .slot k r st t => s.explicitTest k r st t f
  | _ => true

/-- The piece a program finds at its item's position: cast there and bound to no order (R141, step 2). -/
def State.itemPiece (s : State) (p : Program) : Option (Nat × Piece) :=
  match (s.entry p.bed (p.position p.item)).castPiece with
  | none => none
  | some id => match s.piece id with
    | some r => if r.order.isSome then none else some (id, r)
    | none => none

/-- The order a program creates for a piece (R141, step 4). -/
def Program.proto (p : Program) (n id : Nat) : Order :=
  { tag := 0, sequence := 0, kind := .move, origin := .program n, piece := id, cls := p.cls, key := p.key,
    crane := p.crane, dest := p.dest }

/-- A generation (R141), with a bound on the items it may skip. -/
def Work.generate (n : Nat) : Nat → Work → Work
  | 0, w => w
  | fuel + 1, w =>
    let p := w.s.program n
    if p.count ≤ p.item then w.on (State.settleProgram n .done)
    else match w.s.itemPiece p with
      | none =>
        Work.generate n fuel (w.on (State.modProgram n fun p => { p with item := p.item + 1, skipped := p.skipped + 1 }))
      | some (id, r) =>
        if w.s.destPasses p.dest r.footprint = false then w.on (State.settleProgram n (.fault .slot))
        else match w.create (p.proto n id) with
          | (w, none) => w.on (State.settleProgram n (.fault .order))
          | (w, some slot) =>
            w.on fun s => s.modProgram n fun p => { p with order := (s.order slot).map (·.handle slot) }

/-- A generation passes over at most 24 items (R138). -/
def Work.generateNext (n : Nat) (w : Work) : Work := w.generate n 25

/-! ### A program takes its order's ending (R142, R144) -/

/-- An order ended DONE. -/
def OrderState.landed : OrderState → Bool
  | .done => true
  | _ => false

/-- A program is handed the ending of its order (R137, R142, R144). -/
def Work.programTakes (n : Nat) (st : OrderState) (w : Work) : Work :=
  let w := w.on (State.modProgram n fun p => { p with order := none })
  let w' :=
    if st.landed then w.on (State.modProgram n fun p => { p with placed := p.placed + 1, item := p.item + 1 }) else w
  match (w.s.program n).state with
  | .running => if st.landed then w'.generateNext n else w.on (State.settleProgram n (.fault .order))
  | .stopping => w'.on (State.settleProgram n .done)
  | _ => w

/-! ### Endings (R132) -/

/-- The block in which an order's ending or parking lifts a base in flight (R100, R124): its piece stands in stock. -/
def State.flightBlock (s : State) (o : Order) : Option Nat :=
  if o.state = .queued ∨ o.state.inLift then s.sourceBlock o else none

/-- MS is handed the end of a base in flight. -/
def Work.landFlight (k : Option Nat) (w : Work) : Work :=
  match k with
  | some k => w.hand (.flightEnded k)
  | none => w

/-- The order's bed entry closes with it, and the bed makes its tests (R27, R38). -/
def State.closeSource (o : Order) (h : Handle) (s : State) : State :=
  match o.source with
  | .bed b p => (s.closeEntry b p h).entryTests b
  | _ => s

/-- PT takes the handle out of the piece's live order field and clears the uncertain flag (R8, R10). -/
def State.unbind (id : Nat) (s : State) : State := s.modPiece id fun p => { p with order := none, uncertain := false }

/-- The record of an order that ends (R132, step 1); an order not yet offered takes its source from its piece (R135). -/
def Order.ended (st : OrderState) (oc : OrderOutcome) (loc : Loc) (o : Order) : Order :=
  { o with
    state := st
    outcome := some oc
    retry := none
    source := if o.state.unoffered then loc else o.source }

/-- What becomes of an ending order's claim (R132, step 2): a landing has turned it into occupancy, any other ending
releases it. -/
def Work.settleClaim (slot : Nat) (landed : Bool) (w : Work) : Work :=
  if landed then w.on (State.modOrder slot fun o => { o with reserved := none }) else w.releaseClaim slot

/-- The origin of an ended order is told (R132, step 5). -/
def Work.tellOrigin (o : Order) (st : OrderState) (w : Work) : Work :=
  match o.origin with
  | .host => w
  | .program n => w.programTakes n st
  | .rehandle parent => w.hand (.parentOf parent)

/-- The order attention set takes the ending unless it is BY_HOST (R132, step 6). -/
def State.noteEnding (h : Handle) (oc : OrderOutcome) (s : State) : State :=
  if oc = .byHost then s else s.noteOrder h

/-- An ending of an order (R132). -/
def Work.endOrder (slot : Nat) (st : OrderState) (oc : OrderOutcome) (w : Work) : Work :=
  match w.s.order slot with
  | none => w
  | some o =>
    let h := o.handle slot
    let flight := if st.landed then none else w.s.flightBlock o
    let w := w.on fun s => s.modOrder slot (Order.ended st oc (((s.piece o.piece).map (·.loc)).getD .none))
    let w := w.settleClaim slot st.landed
    let w := w.on fun s => (s.unbind o.piece).closeSource o h
    let w := (w.testPick o).landFlight flight
    let w := (w.tellOrigin o st).hand .orderEnded
    w.on (State.noteEnding h oc)

/-! ### Returns to QUEUED (R144, R153) -/

/-- An order returns to QUEUED: its mark is set again, its crane may select, and a STOPPING program cancels it. -/
def Work.requeue (slot : Nat) (w : Work) : Work :=
  match w.s.order slot with
  | none => w
  | some o =>
    let w := w.queueOrder slot
    match o.origin with
    | .program n =>
      if (w.s.program n).state = .stopping then
        (w.on (State.settleProgram n .done)).endOrder slot .cancelled .stopped
      else w
    | _ => w

/-! ### Commands -/

/-- The mode bit of START_TRANSFER's word 4 (section 11.5.3). -/
def transferStacked (a : TransferArgs) : Bool := a.mode.getLsbD 4
/-- The block of START_TRANSFER's word 4. -/
def transferBlock (a : TransferArgs) : Nat := a.mode.toNat % 16

/-- The record START_TRANSFER writes (R139). -/
def transferProgram (a : TransferArgs) : Program :=
  { state := .running, bed := a.bed.toNat, first := a.first.toNat, backwards := a.step.toNat = 1,
    count := a.count.toNat, crane := a.crane.toNat, cls := a.cls.toNat, key := a.key.toNat, block := transferBlock a,
    pattern := if transferStacked a then
        some ⟨a.startRow.toNat, a.startStack.toNat, a.startTier.toNat, a.n1.toNat, a.n2.toNat, a.stackStride.toNat,
          a.rowStride.toNat⟩
      else none }

/-- The seven pattern figures in range (R138, step 1). -/
def patternInRange (a : TransferArgs) : Bool :=
  within 0 15 a.startRow.toNat && within 0 31 a.startStack.toNat && within 0 5 a.startTier.toNat && within 1 6 a.n1.toNat
    && within 1 32 a.n2.toNat && within 1 31 a.stackStride.toNat && within 1 15 a.rowStride.toNat

/-- First and last position exist on the bed (R138, step 4). -/
def Program.positionsExist (p : Program) (positions : Nat) : Bool :=
  p.first < positions && (if p.backwards then p.count - 1 ≤ p.first else p.first + (p.count - 1) < positions)

/-- Every place of the pattern lies within the block (R138, step 7). -/
def State.patternFits (s : State) (p : Program) : Bool :=
  match p.pattern with
  | none => true
  | some x => (List.range p.count).all fun k =>
      (s.block p.block).within (x.slot k).1 (x.slot k).2.1 (x.slot k).2.2

/-- Words 9 to 12 of TRANSFER_STATUS (section 11.5.5). -/
def Program.stateWords (p : Program) : List DataWord :=
  [packed [(0, 3, p.state.code), (4, 1, bit p.doneFlag), (8, 2, p.state.reasonCode), (12, 1, bit p.order.isSome)],
    byteWord p.item p.placed, fullWord p.skipped, handleWord? p.order]

/-- Words 5 to 8 of TRANSFER_STATUS: the pattern figures, absent in AUTO mode. -/
def Program.patternWords (p : Program) : List DataWord :=
  match p.pattern with
  | some x => [byteWord x.startRow x.startStack, byteWord x.startTier x.n1, byteWord x.n2 x.stackStride, fullWord x.rowStride]
  | none => [absentWord, absentWord, absentWord, absentWord]

/-- The data words of TRANSFER_STATUS (R146, section 11.5.5). -/
def Program.words (p : Program) (n : Nat) : List DataWord :=
  [byteWord n p.bed, byteWord p.first (bit p.backwards), byteWord p.count p.crane,
    packed [(8, 8, p.cls), (4, 1, bit p.pattern.isSome), (0, 4, p.block)], fullWord p.key]
    ++ p.patternWords ++ p.stateWords

/-- The checks of START_TRANSFER (R138). -/
def State.checkTransfer (s : State) (a : TransferArgs) : Except Reason Unit :=
  let p := transferProgram a
  let b := s.bed p.bed
  let r := (s.crane p.crane).reach
  guardAll [
    (a.program.toNat < Config.programs && p.bed < Config.beds && p.first < Config.positions && a.step.toNat ≤ 1
      && within 1 24 p.count && p.crane < Config.cranes && within 1 3 p.cls && p.block < Config.blocks
      && (!transferStacked a || patternInRange a), .range),
    (match (s.program a.program.toNat).state with
      | .idle => true
      | .done => true
      | _ => false, .wrongState),
    (b.state.cast, .wrongState),
    (p.positionsExist b.positions, .range),
    ((s.block p.block).defined, .notFound),
    (r.hasBed p.bed && r.hasBlock p.block, .notReachable),
    (s.patternFits p, .range)]

/-- A start (R139): the record is written, and the program generates for item 0. -/
def State.startTransfer (a : TransferArgs) (s : State) : State :=
  ((s.modProgram a.program.toNat fun _ => transferProgram a).work.generateNext a.program.toNat).finish

/-- START_TRANSFER (R138, R139). -/
def execStartTransfer (a : TransferArgs) (s : State) : Host.Outcome State Fault Refusal :=
  hostStep (.startTransfer a) 0x30 (checked (fun s => s.checkTransfer a)
    (fun _ s =>
      let t := s.startTransfer a
      (t, .done (t.program a.program.toNat).stateWords))) s

/-- The effect of a STOP_TRANSFER by the program's state (R143). -/
def State.stopTransfer (n : Nat) (s : State) : State :=
  match (s.program n).state, (s.program n).order with
  | .running, some h =>
    match s.order h.slot with
    | some o =>
      if o.state.unoffered then
        ((s.work.on (State.settleProgram n .done)).endOrder h.slot .cancelled .stopped).finish
      else s.modProgram n fun p => { p with state := .stopping }
    | none => s.modProgram n fun p => { p with state := .stopping }
  | .running, none => s.modProgram n fun p => { p with state := .stopping }
  | .fault _, _ => s.settleProgram n .done
  | _, _ => s

/-- STOP_TRANSFER (R143). -/
def execStopTransfer (program : Word) (s : State) : Host.Outcome State Fault Refusal :=
  hostStep (.stopTransfer program) 0x31 (checked
    (fun s => guardAll [
      (program.toNat < Config.programs, .range),
      (match (s.program program.toNat).state with
        | .idle => false
        | .done => false
        | _ => true, .wrongState)])
    (fun _ s => (s.stopTransfer program.toNat, .done []))) s

/-- A resumption (R145). -/
def State.resumeTransfer (n : Nat) (s : State) : State :=
  ((s.modProgram n fun p => { p with state := .running }).work.generateNext n).finish

/-- RESUME_TRANSFER (R145). -/
def execResumeTransfer (program : Word) (s : State) : Host.Outcome State Fault Refusal :=
  hostStep (.resumeTransfer program) 0x32 (checked
    (fun s => guardAll [
      (program.toNat < Config.programs, .range),
      (match (s.program program.toNat).state with
        | .fault _ => true
        | _ => false, .wrongState)])
    (fun _ s =>
      let t := s.resumeTransfer program.toNat
      (t, .done (t.program program.toNat).stateWords))) s

/-- TRANSFER_STATUS (R146). -/
def execTransferStatus (program : Word) (s : State) : Host.Outcome State Fault Refusal :=
  hostStep (.transferStatus program) 0x33 (readOnly fun s =>
    if program.toNat < Config.programs then .done ((s.program program.toNat).words program.toNat)
    else .failed .range) s

end Sys2Proof.Machine
end

