-- ==== Sys2Proof/Machine/Lifts.lean ====
section
/-! DEFINITION. The Lift Controller (chapter 8): crane states, the offer's and the lift's timers, the six crane events,
unresolved lifts, the link going down; and the meanings of its commands and events. -/

namespace Sys2Proof.Machine

/-! ### Crane states (R151, R152, R158, R160) -/

/-- A crane with no lift: current order absent, timers 0, flags clear (R151, R158). -/
def Crane.cleared (st : CraneState) (r : Crane) : Crane :=
  { r with state := st, order := none, acceptTimer := 0, resent := false, liftTimer := 0, hooked := false }

/-- The state a ready crane has under an effective mode (R151). -/
def CraneMode.settled : CraneMode → CraneState
  | .run => .idle
  | .hold => .held
  | .stop => .stopped

/-- A crane settles; one that is IDLE selects at the end of the step (R151). -/
def Work.settle (c : Nat) (w : Work) : Work :=
  let w := w.on fun s => s.modCrane c (Crane.cleared (s.effMode c).settled)
  if (w.s.crane c).state = .idle then w.wantSelection c else w

/-- A crane goes OFFLINE and enters the crane attention set (R158). -/
def Work.goOffline (c : Nat) (w : Work) : Work := w.on fun s => (s.modCrane c (Crane.cleared .offline)).noteCrane c

/-- The slot of a crane's current order. -/
def State.currentSlot (s : State) (c : Nat) : Option Nat := (s.crane c).order.map (·.slot)

/-- The current order returns to QUEUED (R153), nothing else in it changed. -/
def Work.requeueCurrent (c : Nat) (w : Work) : Work :=
  match w.s.currentSlot c with
  | some slot => w.requeue slot
  | none => w

/-- The current order becomes UNRESOLVED (R160): the piece is uncertain, everything else of the lift is kept. -/
def Work.unresolveCurrent (c : Nat) (w : Work) : Work :=
  match w.s.currentSlot c with
  | some slot =>
    let w := w.setOrderState slot .unresolved
    match w.s.order slot with
    | some o => w.on (State.modPiece o.piece fun p => { p with uncertain := true })
    | none => w
  | none => w

/-- LC withdraws an unsent LIFT of a crane (R194). -/
def Work.withdrawLift (c : Nat) (w : Work) : Work := w.on (State.modLink (Link.withdrawLift c))

/-- A change of a crane's effective mode (R152, R177). -/
def Work.applyMode (c : Nat) (w : Work) : Work :=
  let m := w.s.effMode c
  let w := w.on (State.modLink (Link.placeControl c m))
  match (w.s.crane c).state with
  | .offline => w
  | .idle | .held | .stopped => w.settle c
  | .offered => if m = .stop then (w.requeueCurrent c).settle c else w
  | .working => if m = .stop then (w.unresolveCurrent c).settle c else w

/-- Each crane whose effective mode differs from the one it held before is handled (R177), by ascending crane number
(DESIGN CHOICE, log 38). -/
def Work.applyModes (before : State) (w : Work) : Work :=
  (List.range Config.cranes).foldl (fun w c => if w.s.effMode c = before.effMode c then w else w.applyMode c) w

/-! ### A piece leaves its source and reaches its destination (R105, R106, R156, R157) -/

/-- The source of an order's piece is freed by its owner (R156, step 1). -/
def Work.freeSource (id : Nat) (h : Handle) (w : Work) : Work :=
  match ((w.s.piece id).map (·.loc)).getD .none with
  | .bed b p => w.on fun s => (s.setEntry b p (.vacated (some h))).entryTests b
  | .stock k r st t =>
    ((w.on (State.departSlot k r st t)).hand (.stackEvent k r st)).slotFree ⟨k, r, st, t⟩
  | .bay b => (w.on (State.bayLeave b id)).hand (.bayFell b)
  | _ => w

/-- PT writes a piece's location (R5). -/
def State.place (id : Nat) (l : Loc) (s : State) : State := s.modPiece id fun p => { p with loc := l }

/-- A piece leaves the hook cell of a crane (R6). -/
def State.unhook (c id : Nat) (s : State) : State :=
  s.modCrane c fun r => { r with hookCell := serase id r.hookCell }

/-- The credit start of a piece becomes now (R53). -/
def State.startCredit (id : Nat) (s : State) : State :=
  s.modPiece id fun p => { p with creditStart := some s.time }

/-- The destination takes the piece, PT moves it and the hook cell loses it (R105, R108, R157). -/
def Work.landAt (c id : Nat) (l : Option Loc) (w : Work) : Work :=
  match l with
  | some (.stock k r st t) =>
    ((w.on fun s => (((s.occupySlot k r st t id).unhook c id).place id (.stock k r st t)).startCredit id).hand
      (.stackEvent k r st)).hand (.slotFilled ⟨k, r, st, t⟩)
  | some (.bay b) => w.on fun s => ((s.bayJoin b id).unhook c id).place id (.bay b)
  | _ => w

/-- The piece of an order hangs on its crane's hook (R160). -/
def State.isHooked (s : State) (o : Order) : Bool := (s.piece o.piece).map (·.loc) == some (.hook o.crane)

/-- A lift ends at its destination: the source is freed first if the piece is not on the hook, the destination takes the
piece and the order ends DONE (R157, R161, R162). -/
def Work.land (slot : Nat) (hooked : Bool) (oc : OrderOutcome) (w : Work) : Work :=
  match w.s.order slot with
  | none => w
  | some o =>
    let w := if hooked then w else w.freeSource o.piece (o.handle slot)
    (w.landAt o.crane o.piece o.reserved).endOrder slot .done oc

/-! ### Crane events (R151, R154 to R161) -/

/-- The handle a crane event names. -/
def eventHandle (e : CraneWord) : Handle := ⟨e.slot.toNat, e.tag.toNat⟩

/-- The event names the crane's current order (R154). -/
def State.namesCurrent (s : State) (c : Nat) (e : CraneWord) : Bool := (s.crane c).order == some (eventHandle e)

/-- READY (R151). -/
def Work.ready (c : Nat) (w : Work) : Work :=
  let w := match (w.s.crane c).state with
    | .offered => ((w.requeueCurrent c).withdrawLift c).settle c
    | .working => (w.unresolveCurrent c).settle c
    | _ => w.settle c
  w.on fun s => s.modLink (Link.placeControl c (s.effMode c))

/-- An ACCEPT taken for an OFFERED crane (R155). -/
def Work.acceptCurrent (c : Nat) (w : Work) : Work :=
  let w := match w.s.currentSlot c with
    | some slot => w.setOrderState slot .working
    | none => w
  w.on (State.modCrane c fun r => { r with state := .working, acceptTimer := 0, liftTimer := r.limit })

/-- The ACCEPT that a HOOKED or LANDED in OFFERED implies (R156, R157). -/
def Work.acceptFirst (c : Nat) (w : Work) : Work := if (w.s.crane c).state = .offered then w.acceptCurrent c else w

/-- ACCEPT (R154, R155). -/
def Work.accept (c : Nat) (e : CraneWord) (w : Work) : Work := if w.s.namesCurrent c e then w.acceptFirst c else w

/-- A refusal of the current order (R155): back to QUEUED with a retry wait, or FAILED at the third. -/
def Work.refuseCurrent (slot : Nat) (w : Work) : Work :=
  let w := w.on (State.modOrder slot fun o => { o with attempts := o.attempts + 1 })
  match w.s.order slot with
  | none => w
  | some o =>
    if o.attempts < Config.maxAttempts then
      (w.on fun s => s.modOrder slot fun o => { o with retry := some (s.time + Config.retryWait) }).requeue slot
    else w.endOrder slot .failed .refusedOut

/-- The reason byte of a REFUSE or FAULT is written when the event is taken (R154). -/
def Work.noteReason (c : Nat) (e : CraneWord) (w : Work) : Work :=
  w.on (State.modCrane c fun r => { r with lastReason := e.reason.toNat })

/-- REFUSE (R154, R155): taken in OFFERED alone. -/
def Work.refuse (c : Nat) (e : CraneWord) (w : Work) : Work :=
  if w.s.namesCurrent c e ∧ (w.s.crane c).state = .offered then
    (((w.noteReason c e).refuseCurrent e.slot.toNat).withdrawLift c).settle c
  else w

/-- HOOKED (R154, R156). -/
def Work.hook (c : Nat) (e : CraneWord) (w : Work) : Work :=
  if w.s.namesCurrent c e then
    let w := w.acceptFirst c
    match w.s.order e.slot.toNat with
    | some o =>
      if (w.s.crane c).hooked then w
      else
        (w.freeSource o.piece (eventHandle e)).on fun s => (s.place o.piece (.hook c)).modCrane c fun r =>
          { r with hookCell := sinsert o.piece r.hookCell, hooked := true }
    | none => w
  else w

/-- A LANDED names an UNRESOLVED order of the crane (R154). -/
def State.namesUnresolved (s : State) (c : Nat) (e : CraneWord) : Bool :=
  match s.order e.slot.toNat with
  | some o => o.tag == e.tag.toNat && o.state == .unresolved && o.crane == c
  | none => false

/-- An UNRESOLVED lift is settled at its destination (R161). -/
def Work.landUnresolved (slot : Nat) (oc : OrderOutcome) (w : Work) : Work :=
  match w.s.order slot with
  | some o => w.land slot (w.s.isHooked o) oc
  | none => w

/-- LANDED (R154, R157, R161). -/
def Work.landEvent (c : Nat) (e : CraneWord) (w : Work) : Work :=
  if w.s.namesCurrent c e then
    let w := w.acceptFirst c
    (w.land e.slot.toNat (w.s.crane c).hooked .normal).settle c
  else if w.s.namesUnresolved c e then w.landUnresolved e.slot.toNat .late
  else w

/-- FAULT (R154, R158); every FAULT taken withdraws an unsent LIFT (R194). -/
def Work.craneFault (c : Nat) (e : CraneWord) (w : Work) : Work :=
  if (w.s.crane c).order.isNone || w.s.namesCurrent c e then
    let w := (w.noteReason c e).withdrawLift c
    match (w.s.crane c).state with
    | .offline => w
    | .idle | .held | .stopped => w.goOffline c
    | .offered => (w.requeueCurrent c).goOffline c
    | .working => if (w.s.crane c).hooked then (w.unresolveCurrent c).goOffline c else (w.requeueCurrent c).goOffline c
  else w

/-- READY (R151). -/
def execReady (c : Fin 4) (_e : CraneWord) (s : State) : Host.Outcome State Fault Refusal :=
  .next (s.work.ready c.val).finish
/-- ACCEPT (R155). -/
def execAccept (c : Fin 4) (e : CraneWord) (s : State) : Host.Outcome State Fault Refusal :=
  .next (s.work.accept c.val e).finish
/-- REFUSE (R155). -/
def execRefuse (c : Fin 4) (e : CraneWord) (s : State) : Host.Outcome State Fault Refusal :=
  .next (s.work.refuse c.val e).finish
/-- HOOKED (R156). -/
def execHooked (c : Fin 4) (e : CraneWord) (s : State) : Host.Outcome State Fault Refusal :=
  .next (s.work.hook c.val e).finish
/-- LANDED (R157, R161). -/
def execLanded (c : Fin 4) (e : CraneWord) (s : State) : Host.Outcome State Fault Refusal :=
  .next (s.work.landEvent c.val e).finish
/-- FAULT (R158). -/
def execFault (c : Fin 4) (e : CraneWord) (s : State) : Host.Outcome State Fault Refusal :=
  .next (s.work.craneFault c.val e).finish

/-! ### Timers (R153, R159) -/

/-- The accept timer of an OFFERED crane has expired (R153). -/
def Work.acceptExpired (c : Nat) (w : Work) : Work :=
  if (w.s.crane c).resent then ((w.requeueCurrent c).withdrawLift c).goOffline c
  else
    let w := w.on (State.modCrane c fun r => { r with resent := true, acceptTimer := 2 })
    match w.s.currentSlot c with
    | some slot => match w.s.order slot with
      | some o => w.on (State.modLink (Link.placeLift c (o.lift slot)))
      | none => w
    | none => w

/-- One crane's timers on a tick (R153, R159). -/
def Work.craneTick (c : Nat) (w : Work) : Work :=
  match (w.s.crane c).state with
  | .offered =>
    let w := w.on (State.modCrane c fun r => { r with acceptTimer := r.acceptTimer - 1 })
    if (w.s.crane c).acceptTimer = 0 then w.acceptExpired c else w
  | .working =>
    let w := w.on (State.modCrane c fun r => { r with liftTimer := r.liftTimer - 1 })
    if (w.s.crane c).liftTimer = 0 then (w.unresolveCurrent c).goOffline c else w
  | _ => w

/-- LC's work on a tick (R180), by ascending crane number (DESIGN CHOICE, log 38). -/
def Work.cranesTick (w : Work) : Work := (List.range Config.cranes).foldl (fun w c => w.craneTick c) w

/-! ### The link going down (R163) -/

/-- One crane when the link goes down. -/
def Work.craneLinkDown (c : Nat) (w : Work) : Work :=
  match (w.s.crane c).state with
  | .offered => (w.requeueCurrent c).goOffline c
  | .idle | .held | .stopped => w.goOffline c
  | _ => w

/-- LC takes the report that the link is down (R163). The spec gives no order among the cranes; they are handled by
ascending crane number (DESIGN CHOICE, log 38). -/
def Work.linkDown (w : Work) : Work := (List.range Config.cranes).foldl (fun w c => w.craneLinkDown c) w

/-! ### Commands -/

/-- The reach of CRANE_SETUP's words 2 and 3 (section 11.5.3). -/
def reachArg (beds areas : Word) : Reach := ⟨beds.extractLsb' 0 12, areas.extractLsb' 0 4, areas.extractLsb' 8 4⟩

/-- The mode table of CRANE_SETUP's word 5. -/
def modeTableArg (w : Word) : Option ModeTable :=
  match craneModeArg (w.toNat % 4), craneModeArg (w.toNat / 4 % 4), craneModeArg (w.toNat / 16 % 4) with
  | some a, some b, some c => some ⟨a, b, c⟩
  | _, _, _ => none

/-- A reach covers the source and destination areas of a crane's current order (R149). -/
def State.reachKeeps (s : State) (c : Nat) (r : Reach) : Bool :=
  match (s.currentSlot c).bind s.order with
  | some o => r.coversLoc o.source && r.coversDest o.dest
  | none => true

/-- The crane is OFFERED or WORKING. -/
def CraneState.busy : CraneState → Bool
  | .offered => true
  | .working => true
  | _ => false

/-- What an accepted CRANE_SETUP does (R149). -/
def State.setupCrane (c : Nat) (r : Reach) (limit : Nat) (t : ModeTable) (s : State) : State :=
  let w := (s.modCrane c fun x => { x with reach := r, limit := limit, modes := t }).work
  let w := if w.s.effMode c = s.effMode c then w else w.applyMode c
  ((w.hand .craneSetup).wantSelection c).finish

/-- CRANE_SETUP (R149). R149 gives no order between its refusals: RANGE comes before WRONG_STATE (DESIGN CHOICE, log 39). -/
def execCraneSetup (crane beds areas limit table : Word) (s : State) : Host.Outcome State Fault Refusal :=
  hostStep (.craneSetup crane beds areas limit table) 0x36 (checked
    (fun s =>
      match modeTableArg table with
      | none => .error .range
      | some t => (guardAll [
          (crane.toNat < Config.cranes && within 60 3600 limit.toNat, .range),
          (!(s.crane crane.toNat).state.busy || s.reachKeeps crane.toNat (reachArg beds areas), .wrongState)]).map
            fun _ => t)
    (fun t s => (s.setupCrane crane.toNat (reachArg beds areas) limit.toNat t, .done []))) s

/-- The UNRESOLVED orders of a crane, in ascending sequence (R150); of two of equal sequence the higher slot comes first
(DESIGN CHOICE, log 40). -/
def State.unresolvedOf (s : State) (c : Nat) : List (Nat × Order) :=
  orderBy (fun e => e.2.sequence) (s.records.filter fun e => e.2.state == .unresolved && e.2.crane == c)

/-- The data words of CRANE_STATUS (R150, section 11.5.5). -/
def State.craneWords (s : State) (c : Nat) : List DataWord :=
  let r := s.crane c
  let u := s.unresolvedOf c
  [packed [(0, 3, r.state.code), (4, 2, (s.effMode c).code), (8, 1, bit r.order.isSome), (9, 1, bit r.resent),
      (10, 1, bit r.hooked)],
    packed [(0, 12, r.reach.beds.toNat)], packed [(0, 4, r.reach.blocks.toNat), (8, 4, r.reach.bays.toNat)],
    fullWord r.limit,
    packed [(0, 2, r.modes.production.code), (2, 2, r.modes.cureOnly.code), (4, 2, r.modes.standby.code)],
    handleWord? r.order, byteWord r.acceptTimer r.lastReason, fullWord r.liftTimer,
    byteWord r.hookCell.length u.length, handleWord? (u.head?.map fun e => e.2.handle e.1)]

/-- CRANE_STATUS (R150). -/
def execCraneStatus (crane : Word) (s : State) : Host.Outcome State Fault Refusal :=
  hostStep (.craneStatus crane) 0x37 (readOnly fun s =>
    if crane.toNat < Config.cranes then .done (s.craneWords crane.toNat) else .failed .range) s

/-! ### CONFIRM_LIFT (R162) -/

/-- The UNRESOLVED order a CONFIRM_LIFT names (R162). R162 gives no order between its refusals: the
outcome is checked first, then the handle, then the state (DESIGN CHOICE, log 39). -/
def State.findUnresolved (s : State) (outcomeOk : Bool) (handle : Word) : Except Reason (Nat × Order) :=
  if outcomeOk then
    match s.findOrder (handleArg handle) with
    | .error r => .error r
    | .ok o => if o.state = .unresolved then .ok ((handleArg handle).slot, o) else .error .wrongState
  else .error .range

/-- The owner of a hooked lift's source takes the piece back (R38, R106, R108, R162). -/
def State.takesBack (s : State) (o : Order) : Bool :=
  match o.source with
  | .stock k r st t => s.canReturn k r st t (((s.piece o.piece).map (·.footprint)).getD 0)
  | .bay b => (s.bay b).count < Config.bayRoom
  | _ => true

/-- A hooked piece goes back to its source (R162). -/
def Work.putBack (o : Order) (w : Work) : Work :=
  let id := o.piece
  let f := ((w.s.piece id).map (·.footprint)).getD 0
  let w := w.on fun s => ((s.unhook o.crane id).place id o.source).startCredit id
  match o.source with
  | .bed b p => w.on fun s => s.setEntry b p (.cast id)
  | .stock k r st t =>
    (w.on fun s =>
      (s.occupySlot k r st t id).modBlock k fun x => if t = 0 then x.setFootprint r st (some f) else x).hand
        (.slotFilled ⟨k, r, st, t⟩)
  | .bay b => w.on fun s => (s.bayJoin b id).modBay b fun x => { x with count := x.count + 1 }
  | _ => w

/-- A live record ends: its id leaves the index and its mix loses one use (R2, R4, R17 step 3). -/
def State.endRecord (id : Nat) (s : State) : State :=
  match s.piece id with
  | some p => ({ s with pieces := tdel s.pieces id }).modMix p.mix fun x => { x with inUse := x.inUse - 1 }
  | none => s

/-- A confirmation that the piece is at its source (R162). -/
def State.confirmAtSource (slot : Nat) (o : Order) (s : State) : State :=
  let w := if s.isHooked o then s.work.putBack o else s.work
  (w.endOrder slot .cancelled .byHost).finish

/-- CONFIRM_LIFT with outcome AT_SOURCE, or a word that names no outcome (R162, log 24). -/
def execConfirmLiftAtSource (handle outcome : Word) (s : State) : Host.Outcome State Fault Refusal :=
  hostStep (.confirmLiftAtSource handle outcome) 0x38 (checked
    (fun s => match s.findUnresolved (outcome.toNat == 1) handle with
      | .error r => .error r
      | .ok (slot, o) => if s.isHooked o && !s.takesBack o then .error .occupied else .ok (slot, o))
    (fun (slot, o) s => (s.confirmAtSource slot o, .done []))) s

/-- CONFIRM_LIFT with outcome AT_DESTINATION (R162). -/
def execConfirmLiftAtDestination (handle : Word) (s : State) : Host.Outcome State Fault Refusal :=
  hostStep (.confirmLiftAtDestination handle) 0x38 (checked (fun s => s.findUnresolved true handle)
    (fun (slot, _) s => ((s.work.landUnresolved slot .confirmed).finish, .done []))) s

/-- A confirmation that the piece is lost (R19, R162): the index entry is removed, the order ends, and the record ends. R19
names the order's ending before the entry's removal and R162 the removal before the ending; the model takes R162's order,
so that MS is handed the freed source before what the ending hands it (DESIGN CHOICE, log 41). -/
def State.confirmLost (slot : Nat) (o : Order) (s : State) : State :=
  let w := if s.isHooked o then s.work.on (State.unhook o.crane o.piece) else s.work.freeSource o.piece (o.handle slot)
  ((w.endOrder slot .failed .lost).on (State.endRecord o.piece)).finish

/-- CONFIRM_LIFT with outcome LOST (R162). -/
def execConfirmLiftLost (handle : Word) (s : State) : Host.Outcome State Fault Refusal :=
  hostStep (.confirmLiftLost handle) 0x38 (checked (fun s => s.findUnresolved true handle)
    (fun (slot, o) s => (s.confirmLost slot o, .done []))) s

end Sys2Proof.Machine
end

