-- ==== Sys2Proof/Machine/Pieces.lean ====
section
/-! DEFINITION. The Piece Table's commands (chapters 1 and 9): declaring, looking up, amending, scrapping and retiring a
piece; holding, unholding and releasing it. -/

namespace Sys2Proof.Machine

/-! ### DECLARE (R3, R11) -/

/-- The first calibration strength of a mix (R3). -/
def Mix.firstStrength (x : Mix) : Nat := (vget x.curve 0).2

/-- The record DECLARE fills (R3). -/
def declaredPiece (s : State) (bed position : Nat) (mark : Word) (mix footprint : Nat) : Piece :=
  { mark := mark.toNat, mix := mix, footprint := footprint, homeBed := bed, homePos := position,
    strength := (s.mix mix).firstStrength }

/-- An accepted DECLARE (R3, R4, R29). -/
def State.declare (bed position id : Nat) (mark : Word) (mix footprint : Nat) (s : State) : State :=
  (({ s with pieces := tput s.pieces id (declaredPiece s bed position mark mix footprint) }).modMix mix fun x =>
    { x with inUse := x.inUse + 1 }).setEntry bed position (.declared id)

/-- DECLARE (R11). -/
def execDeclare (bed position : Byte) (id : IdBits) (mark : Word) (mix footprint : Byte) (s : State) :
    Host.Outcome State Fault Refusal :=
  hostStep (.declare bed position id mark mix footprint) 0x0D (checked
    (fun s => guardAll [
      (bed.toNat < Config.beds && position.toNat < Config.positions && id.toNat != 0 && mix.toNat < Config.mixes
        && footprint.toNat < 16, .range),
      ((s.bed bed.toNat).state == .set, .wrongState),
      (position.toNat < (s.bed bed.toNat).positions, .range),
      (s.entry bed.toNat position.toNat == .empty, .occupied),
      ((s.piece id.toNat).isNone, .duplicate),
      ((s.mix mix.toNat).loaded, .notFound),
      (s.pieces.length < Config.maxPieces, .tableFull)])
    (fun _ s => (s.declare bed.toNat position.toNat id.toNat mark mix.toNat footprint.toNat, .done []))) s

/-! ### GET_PIECE and FIND_AT (R12, R13) -/

/-- A plant time that may be absent, and then reads 0 (R12). -/
def timeWords (t : Option Nat) : List DataWord := longWords (t.getD 0)

/-- The data words of GET_PIECE (R12, section 11.5.5). -/
def Piece.words (p : Piece) (id : Nat) : List DataWord :=
  idWords id ++ [fullWord p.mark, packed [(8, 4, p.mix), (0, 4, p.footprint)], byteWord p.homeBed p.homePos,
    packed [(0, 2, p.stage.code), (4, 2, p.quality.code), (8, 2, p.quality.causeCode), (12, 1, bit p.uncertain),
      (13, 1, bit p.waived)]]
    ++ locWords p.loc
    ++ [packed [(0, 1, bit p.castTime.isSome), (1, 1, bit p.creditStart.isSome), (2, 1, bit p.order.isSome),
      (3, 1, bit p.releaseTime.isSome), (8, 1, bit p.gateStrip), (9, 1, bit p.gateRelease), (10, 1, bit p.gateDispatch)]]
    ++ timeWords p.castTime ++ timeWords p.creditStart ++ idWords p.maturity
    ++ [fullWord p.residual, fullWord p.strength, fullWord p.overheat, zeroHandleWord p.order] ++ timeWords p.releaseTime

/-- GET_PIECE (R12). -/
def execGetPiece (id : IdBits) (s : State) : Host.Outcome State Fault Refusal :=
  hostStep (.getPiece id) 0x18 (readOnly fun s => match s.findPiece id with
    | .ok p => .done (p.words id.toNat)
    | .error r => .failed r) s

/-- The uncertain flag of the piece an id names. -/
def State.uncertainOf (s : State) (id : Nat) : Bool := ((s.piece id).map (·.uncertain)).getD false

/-- FIND_AT's words for a piece at a bed position or in a slot, after the two that lead (section 11.5.4). -/
def State.foundWords (s : State) (id : Nat) : List DataWord := idWords id ++ [packed [(0, 1, bit (s.uncertainOf id))]]

/-- FIND_AT's answer for a bed position (R13, log 9). -/
def State.findBed (s : State) (b p : Nat) : Reply :=
  if b < Config.beds ∧ p < (s.bed b).positions then
    let e := s.entry b p
    .done ([fullWord 1, fullWord e.code] ++ match e with
      | .declared id => s.foundWords id
      | .cast id => s.foundWords id
      | _ => [absentWord, absentWord, absentWord])
  else .failed .range

/-- The slot state code of a slot (section 11.5.2). -/
def slotCode : Option Cell → Nat
  | none => 0
  | some (.reserved _) => 1
  | some (.occupied _) => 2
  | some .out => 3

/-- FIND_AT's answer for a stock slot (R13, log 9); its refusals in the order R13 names them (DEDUCED, log 39). -/
def State.findStock (s : State) (k r st t : Nat) : Reply :=
  match firstFailing [
    (k < Config.blocks, .range), ((s.block k).defined, .notFound), ((s.block k).within r st t, .range)] with
  | some e => .failed e
  | none =>
    let c := (s.block k).cell r st t
    .done ([fullWord 3, fullWord (slotCode c)] ++ match c with
      | some (.occupied id) => s.foundWords id
      | some (.reserved h) => [handleWord h, absentWord, absentWord]
      | _ => [absentWord, absentWord, absentWord])

/-- FIND_AT's answer for a crane's hook (R13): the cell's pieces in ascending id. -/
def State.findHook (s : State) (c : Nat) : Reply :=
  if c < Config.cranes then
    let cell := (s.crane c).hookCell
    .done ([fullWord 2, fullWord cell.length] ++ cell.flatMap fun id =>
      [packed [(0, 8, id / 65536), (15, 1, bit (s.uncertainOf id))], fullWord id])
  else .failed .range

/-- FIND_AT's answer for a bay (R13): pieces and reservations, then the ids ascending. -/
def State.findBay (s : State) (b : Nat) : Reply :=
  if b < Config.bays then
    let r := s.bay b
    .done ([fullWord 4, byteWord r.pieces.length (r.count - r.pieces.length)] ++ r.pieces.flatMap idWords)
  else .failed .range

/-- FIND_AT's answer (R13, R185). -/
def State.find (s : State) (loc : LocBits) : Reply :=
  match locArg loc with
  | .place (.bed b p) => s.findBed b p
  | .place (.stock k r st t) => s.findStock k r st t
  | .place (.hook c) => s.findHook c
  | .place (.bay b) => s.findBay b
  | .place .none => .failed .range
  | .auto _ _ => .failed .range
  | .unknown => .failed .range

/-- FIND_AT (R13). -/
def execFindAt (loc : LocBits) (s : State) : Host.Outcome State Fault Refusal :=
  hostStep (.findAt loc) 0x19 (readOnly fun s => s.find loc) s

/-! ### AMEND_PIECE (R15) -/

/-- The new mix of a piece: one use moves, and the strength is the new mix's first (R4, R15). -/
def State.amendMix (id m : Nat) (s : State) : State :=
  match s.piece id with
  | none => s
  | some p =>
    ((s.modMix p.mix fun x => { x with inUse := x.inUse - 1 }).modMix m fun x => { x with inUse := x.inUse + 1 }).modPiece
      id fun q => { q with mix := m, strength := (s.mix m).firstStrength }

/-- An accepted AMEND_PIECE (R15): each flagged field takes its new value. -/
def State.amend (id : Nat) (flags mark mix footprint : Word) (s : State) : State :=
  let s := if flags.getLsbD 0 then s.modPiece id fun p => { p with mark := mark.toNat } else s
  let s := if flags.getLsbD 1 then s.amendMix id mix.toNat else s
  if flags.getLsbD 2 then s.modPiece id fun p => { p with footprint := footprint.toNat } else s

/-- AMEND_PIECE (R15). -/
def execAmendPiece (id : IdBits) (flags mark mix footprint : Word) (s : State) : Host.Outcome State Fault Refusal :=
  hostStep (.amendPiece id flags mark mix footprint) 0x1A (checked
    (fun s => match s.findPiece id with
      | .error r => .error r
      | .ok p => guardAll [
          (p.stage == .declared, .wrongState),
          ((!flags.getLsbD 1 || mix.toNat < Config.mixes) && (!flags.getLsbD 2 || footprint.toNat < 16), .range),
          (!flags.getLsbD 1 || (s.mix mix.toNat).loaded, .notFound)])
    (fun _ s => (s.amend id.toNat flags mark mix footprint, .done []))) s

/-! ### SCRAP_PIECE and RETIRE_PIECE (R16 to R18) -/

/-- The live order of a piece is in the lift protocol's hands (R16, step 4). -/
def State.lifting (s : State) (p : Piece) : Bool :=
  match s.liveOrder p with
  | some (_, o) => o.state.inLift
  | none => false

/-- Step 1 of R17: the piece's live order is cancelled. -/
def Work.cancelOrderOf (id : Nat) (w : Work) : Work :=
  match (w.s.piece id).bind (·.order) with
  | some h => w.endOrder h.slot .cancelled .byHost
  | none => w

/-- Step 2 of R17: the piece's place is freed. -/
def Work.freePlace (id : Nat) (p : Piece) (w : Work) : Work :=
  match p.loc with
  | .bed b pos => w.on (State.scrapEntry b pos p.gateRelease)
  | .none => w.on (State.setEntry p.homeBed p.homePos .empty)
  | .stock k r st t =>
    ((w.on (State.departSlot k r st t)).hand (.stackEvent k r st)).slotFree ⟨k, r, st, t⟩
  | .bay b => (w.on (State.bayLeave b id)).hand (.bayFell b)
  | .hook _ => w

/-- Step 4 of R17: what the scrap brings on for the bed. -/
def State.scrapBed (p : Piece) (s : State) : State :=
  match p.loc with
  | .bed b _ => s.scrapConsequences b
  | _ => s

/-- A scrap (R17). -/
def State.scrap (id : Nat) (p : Piece) (s : State) : State :=
  ((((s.work.cancelOrderOf id).freePlace id p).on (State.endRecord id)).on (State.scrapBed p)).finish

/-- A piece found by its id and held to checks of its own. -/
def State.findPieceWith (s : State) (id : IdBits) (checks : Piece → List (Bool × Reason)) : Except Reason Piece :=
  match s.findPiece id with
  | .error r => .error r
  | .ok p => (guardAll (checks p)).map fun _ => p

/-- The piece hangs on a hook. -/
def Loc.isHook : Loc → Bool
  | .hook _ => true
  | _ => false

/-- SCRAP_PIECE (R16, R17). -/
def execScrapPiece (id : IdBits) (s : State) : Host.Outcome State Fault Refusal :=
  hostStep (.scrapPiece id) 0x1B (checked
    (fun s => s.findPieceWith id fun p =>
      [(!p.loc.isHook, .wrongState), (!s.lifting p, .wrongState), (!s.buried p, .buried)])
    (fun p s => (s.scrap id.toNat p, .done []))) s

/-- The bay of a location. -/
def Loc.bay? : Loc → Option Nat
  | .bay b => some b
  | _ => Option.none

/-- A retirement (R18). -/
def State.retire (id b : Nat) (s : State) : State :=
  (((s.work.on (State.bayLeave b id)).on (State.endRecord id)).hand (.bayFell b)).finish

/-- RETIRE_PIECE (R18). -/
def execRetirePiece (id : IdBits) (s : State) : Host.Outcome State Fault Refusal :=
  hostStep (.retirePiece id) 0x1C (checked
    (fun s => s.findPieceWith id fun p => [(p.loc.bay?.isSome, .wrongState), (p.order.isNone, .wrongState)])
    (fun p s => (s.retire id.toNat (p.loc.bay?.getD 0), .done []))) s

/-! ### Quality (R166 to R169) -/

/-- The quality after a HOLD_PIECE (R166). -/
def Quality.held' : Quality → Quality
  | .opened => .held .host
  | q => q

/-- HOLD_PIECE's data word: quality and hold cause (section 11.5.4). -/
def Quality.word (q : Quality) : DataWord := packed [(0, 2, q.code), (8, 2, q.causeCode)]

/-- HOLD_PIECE (R166). -/
def execHoldPiece (id : IdBits) (s : State) : Host.Outcome State Fault Refusal :=
  hostStep (.holdPiece id) 0x1E (checked
    (fun s => s.findPieceWith id fun p => [(p.quality != .released, .locked)])
    (fun p s => (s.modPiece id.toNat fun q => { q with quality := p.quality.held' }, .done [p.quality.held'.word]))) s

/-- UNHOLD_PIECE (R167). -/
def execUnholdPiece (id : IdBits) (s : State) : Host.Outcome State Fault Refusal :=
  hostStep (.unholdPiece id) 0x1F (checked
    (fun s => s.findPieceWith id fun p => [(p.quality != .released, .locked), (p.quality != .opened, .wrongState)])
    (fun p s => (s.modPiece id.toNat fun q =>
      { q with quality := .opened, waived := q.waived || p.quality == .held .overheat }, .done []))) s

/-- The checks of RELEASE_PIECE after the id's (R168). -/
def State.releaseChecks (s : State) (p : Piece) : List (Bool × Reason) :=
  [(p.quality != .released, .locked), (p.quality == .opened, .wrongState), (p.stage == .liftable, .wrongState),
    (!p.loc.isHook, .wrongState), ((s.mix p.mix).dispatch ≤ p.strength, .strength)]

/-- RELEASE_PIECE (R168, R169). -/
def execReleasePiece (id : IdBits) (s : State) : Host.Outcome State Fault Refusal :=
  hostStep (.releasePiece id) 0x20 (checked (fun s => s.findPieceWith id s.releaseChecks)
    (fun p s => (s.modPiece id.toNat fun q => { q with quality := .released, releaseTime := some s.time },
      .done (longWords s.time ++ [fullWord p.strength])))) s

end Sys2Proof.Machine
end

