-- ==== Sys2Proof/Machine/Orders.lean ====
section
/-! DEFINITION. The host's commands that reach the Move Scheduler: creating orders and commands on an order (chapter 6),
and the commands of the Stock Map and the Bed Unit that hand it something (R34, R39, R92, R112). -/

namespace Sys2Proof.Machine

/-! ### Creating an order (R118 to R121) -/

/-- A crane byte: 0 to 3, or 0xFF for any (section 11.5.3). -/
def craneArg (b : Byte) : Option (Option Nat) :=
  if b.toNat < Config.cranes then some (some b.toNat) else if b.toNat = 0xFF then some none else none

/-- A destination of ORDER_MOVE: AUTO without an exclusion, or a slot (R119 step 1, R185). -/
def moveDest (bits : LocBits) : Option Dest :=
  match locArg bits with
  | .auto k none => if k < Config.blocks then some (.auto k none) else none
  | .place (.stock k r st t) => if k < Config.blocks then some (.slot k r st t) else none
  | _ => none

/-- The block a move's destination lies in. -/
def Dest.blockOr (d : Dest) : Nat := d.block?.getD 0

/-- An explicit slot lies within its block's definition; AUTO has none (R119, step 3). -/
def State.destWithin (s : State) : Dest → Bool
  | .slot k r st t => (s.block k).within r st t
  | _ => true

/-- Step 7 of R119. -/
def destSuits (d : Dest) (p : Piece) : Bool :=
  match d with
  | .slot _ _ _ _ => p.stage != .declared
  | _ => true

/-- Step 8 of R119. -/
def State.destFree (s : State) (d : Dest) (p : Piece) : Bool :=
  match d with
  | .slot k r st t => !(excludedStacks p none k).contains (r, st) && s.explicitTest k r st t p.footprint
  | _ => true

/-- The checks of ORDER_MOVE on the piece and its destination, steps 4 to 10 (R119). -/
def State.checkMove (s : State) (id : IdBits) (d : Dest) (named : Option Nat) : Except Reason Nat :=
  match s.piece id.toNat with
  | none => .error .notFound
  | some p =>
    match firstFailing [
      (!p.loc.isHook, .wrongState), (p.order.isNone, .duplicate), (destSuits d p, .wrongState),
      (s.destFree d p, .occupied)] with
    | some r => .error r
    | none => match s.chooseCrane named p d with
      | none => .error .notReachable
      | some c => if s.freeRecord.isSome then .ok c else .error .tableFull

/-- The word 15 of ORDER_STATUS (section 11.5.5). -/
def Order.stateWord (o : Order) : DataWord :=
  packed [(0, 4, o.state.code), (4, 4, o.state.reasonCode), (8, 4, (o.outcome.map (·.code)).getD 0), (12, 2, o.attempts),
    (15, 1, bit o.retry.isSome)]

/-- A creation by the host: the response gives the handle and the state the order entered (R118, log 32). -/
def createFor (proto : Order) (s : State) : State × Reply :=
  match s.work.create proto with
  | (w, some slot) => (w.finish, match w.s.order slot with
      | some o => .done [handleWord (o.handle slot), o.stateWord]
      | none => .done [])
  | (_, none) => (s, .failed .tableFull)

/-- ORDER_MOVE (R119). -/
def execOrderMove (id : IdBits) (dest : LocBits) (cls crane : Byte) (key : Word) (s : State) :
    Host.Outcome State Fault Refusal :=
  hostStep (.orderMove id dest cls crane key) 0x28 (checked
    (fun s =>
      match moveDest dest, craneArg crane with
      | some d, some named =>
        match firstFailing [
          (id.toNat != 0 && cls.toNat ≤ 3, .range), ((s.block d.blockOr).defined, .notFound),
          (s.destWithin d, .range)] with
        | some r => .error r
        | none => (s.checkMove id d named).map fun c => (d, c)
      | _, _ => .error .range)
    (fun (d, c) => createFor
      { tag := 0, sequence := 0, kind := .move, origin := .host, piece := id.toNat, cls := cls.toNat, key := key.toNat,
        crane := c, dest := d })) s

/-- The checks of ORDER_DISPATCH on the piece, steps 2 to 7 (R120). -/
def State.checkDispatch (s : State) (id : IdBits) (bay : Nat) (named : Option Nat) : Except Reason Nat :=
  match s.piece id.toNat with
  | none => .error .notFound
  | some p =>
    match firstFailing [
      (!p.loc.isHook, .wrongState), (p.order.isNone, .duplicate),
      (p.quality == .released && p.loc != .bay bay, .wrongState)] with
    | some r => .error r
    | none => match s.chooseCrane named p (.bay bay) with
      | none => .error .notReachable
      | some c => if s.freeRecord.isSome then .ok c else .error .tableFull

/-- ORDER_DISPATCH (R120). -/
def execOrderDispatch (id : IdBits) (bay : Word) (cls crane : Byte) (key : Word) (s : State) :
    Host.Outcome State Fault Refusal :=
  hostStep (.orderDispatch id bay cls crane key) 0x29 (checked
    (fun s =>
      match craneArg crane with
      | some named =>
        if id.toNat != 0 && bay.toNat < Config.bays && cls.toNat ≤ 3 then s.checkDispatch id bay.toNat named
        else .error .range
      | none => .error .range)
    (fun c => createFor
      { tag := 0, sequence := 0, kind := .dispatch, origin := .host, piece := id.toNat, cls := cls.toNat,
        key := key.toNat, crane := c, dest := .bay bay.toNat })) s

/-! ### Commands on an order (R133 to R135) -/

/-- The order a handle word names, in a state the command takes; its slot and record. -/
def State.findOrderIn (s : State) (handle : Word) (ok : OrderState → Bool) : Except Reason (Nat × Order) :=
  match s.findOrder (handleArg handle) with
  | .error r => .error r
  | .ok o => if ok o.state then .ok ((handleArg handle).slot, o) else .error .wrongState

/-- An order is parked (R133): its claim is given up, its retry wait ends, its pick's mark is tested. -/
def Work.park (slot : Nat) (o : Order) (w : Work) : Work :=
  let flight := w.s.flightBlock o
  let w := (w.on (State.modOrder slot fun o => { o with state := .parked, retry := none })).releaseClaim slot
  (w.testPick o).landFlight flight

/-- An order is promoted (R133): an explicit slot that passes is reserved, then the order is evaluated. -/
def Work.promote (slot : Nat) (o : Order) (w : Work) : Work :=
  let f := ((w.s.piece o.piece).map (·.footprint)).getD 0
  let w := match o.dest with
    | .slot k r st t => if w.s.explicitTest k r st t f then w.reserve slot k r st t else w
    | _ => w
  w.evaluate slot

/-- The effects of an accepted SET_CLASS (R133). -/
def State.setClass (slot : Nat) (o : Order) (cls key : Nat) (s : State) : State :=
  let w := (s.modOrder slot fun o => { o with cls := cls, key := key }).work
  (if cls = 0 then if o.state = .parked then w else w.park slot o
    else if o.state = .parked then w.promote slot o else w).finish

/-- SET_CLASS (R133). R133 gives no order between its refusals: a class out of range is refused before the handle is
resolved (DESIGN CHOICE, log 39). -/
def execSetClass (handle cls key : Word) (s : State) : Host.Outcome State Fault Refusal :=
  hostStep (.setClass handle cls key) 0x2A (checked
    (fun s => if cls.toNat ≤ 3 then s.findOrderIn handle OrderState.unoffered else .error .range)
    (fun (slot, o) s =>
      let t := s.setClass slot o cls.toNat key.toNat
      (t, .done [(((t.order slot).map (·.stateWord)).getD absentWord)]))) s

/-- CANCEL_ORDER (R134). -/
def execCancelOrder (handle : Word) (s : State) : Host.Outcome State Fault Refusal :=
  hostStep (.cancelOrder handle) 0x2B (checked (fun s => s.findOrderIn handle OrderState.unoffered)
    (fun (slot, _) s => ((s.work.endOrder slot .cancelled .byHost).finish, .done []))) s

/-- The source ORDER_STATUS reports (R135): the piece's location until the order is offered, the record's field then. -/
def State.sourceOf (s : State) (o : Order) : Loc :=
  if o.state.unoffered then ((s.piece o.piece).map (·.loc)).getD .none else o.source

/-- The word 3 of ORDER_STATUS: the program number is named only for origin PROGRAM. -/
def Order.originWord (o : Order) : DataWord :=
  packed ([(0, 2, o.kind.code), (4, 2, o.origin.code)] ++ match o.origin with
    | .program n => [(8, 3, n)]
    | _ => [])

/-- The word 4 of ORDER_STATUS: the parent handle, for origin REHANDLE. -/
def Order.parentWord (o : Order) : DataWord :=
  match o.origin with
  | .rehandle h => handleWord h
  | _ => absentWord

/-- The data words of ORDER_STATUS (R135, section 11.5.5). -/
def State.orderWords (s : State) (slot : Nat) (o : Order) : List DataWord :=
  [handleWord (o.handle slot)] ++ longWords o.sequence ++ [o.originWord, o.parentWord] ++ idWords o.piece
    ++ [byteWord o.cls o.crane, fullWord o.key] ++ locWords (s.sourceOf o) ++ destWords o.dest
    ++ locWords (o.reserved.getD .none) ++ [o.stateWord]
    ++ match o.retry with
      | some t => longWords t
      | none => [absentWord, absentWord]

/-- ORDER_STATUS (R135). -/
def execOrderStatus (handle : Word) (s : State) : Host.Outcome State Fault Refusal :=
  hostStep (.orderStatus handle) 0x2C (readOnly fun s => match s.findOrderIn handle fun _ => true with
    | .ok (slot, o) => .done (s.orderWords slot o)
    | .error r => .failed r) s

/-- A record leaves its slot, which keeps its tag (R115, R135). -/
def State.dropOrder (slot : Nat) (s : State) : State := { s with orders := tdel s.orders slot }

/-- CLOSE_ORDER (R135). -/
def execCloseOrder (handle : Word) (s : State) : Host.Outcome State Fault Refusal :=
  hostStep (.closeOrder handle) 0x2D (checked (fun s => s.findOrderIn handle fun st => !st.live)
    (fun (slot, _) s => (((s.work.on (State.dropOrder slot)).hand .recordFreed).finish, .done []))) s

/-! ### Stock commands that hand MS something (R92, R112) -/

/-- SLOT_IN (R112). -/
def execSlotIn (loc : LocBits) (s : State) : Host.Outcome State Fault Refusal :=
  hostStep (.slotIn loc) 0x26 (checked
    (fun s => match s.findSlotArg loc with
      | .error e => .error e
      | .ok (k, r, st, t) =>
        if ((s.block k).cell r st t).any Cell.isOut then .ok (k, r, st, t) else .error .wrongState)
    (fun (k, r, st, t) s =>
      (((s.work.on (State.modBlock k (Block.setCell r st t none))).slotFree ⟨k, r, st, t⟩).finish, .done []))) s

/-- No slot of the block is OCCUPIED or RESERVED (R92, step 2). -/
def Block.unclaimed (b : Block) : Bool := b.slots.all fun e => e.2.isOut

/-- The block a DEFINE_BLOCK leaves (R92). -/
def definedBlock (rows perRow tiers : Nat) : Block :=
  { defined := true, rows := rows, perRow := perRow, tiers := tiers }

/-- DEFINE_BLOCK (R92). -/
def execDefineBlock (block rows perRow tiers : Word) (s : State) : Host.Outcome State Fault Refusal :=
  hostStep (.defineBlock block rows perRow tiers) 0x22 (checked
    (fun s => guardAll [
      (block.toNat < Config.blocks && within 1 16 rows.toNat && within 1 32 perRow.toNat && within 1 6 tiers.toNat, .range),
      ((s.block block.toNat).unclaimed, .inUse)])
    (fun _ s =>
      (((s.work.on (State.modBlock block.toNat fun _ => definedBlock rows.toNat perRow.toNat tiers.toNat)).hand
        (.blockRedefined block.toNat)).finish, .done []))) s

/-! ### Bed commands that hand MS something (R34, R39) -/

/-- The pieces cast on a bed, in ascending order of position. -/
def State.castPieces (s : State) (b : Nat) : List Nat := (s.bed b).entries.toList.filterMap Entry.castPiece

/-- A piece becomes LIFTABLE by DETENSIONED and is handed to MS (R7, R34). -/
def Work.detensionPiece (id : Nat) (w : Work) : Work :=
  (w.on (State.modPiece id fun p => { p with stage := .liftable })).hand (.pieceListed id)

/-- The effects of DETENSIONED (R34). -/
def State.detension (b : Nat) (s : State) : State :=
  (((s.castPieces b).foldl (fun w id => w.detensionPiece id) s.work).on (State.setBedState b .opened)).finish

/-- DETENSIONED (R34). -/
def execDetensioned (bed : Word) (s : State) : Host.Outcome State Fault Refusal :=
  hostStep (.detensioned bed) 0x0F (checked
    (fun s => guardAll [
      (bed.toNat < Config.beds, .range), ((s.bed bed.toNat).state == .releaseReady, .wrongState)])
    (fun _ s => (s.detension bed.toNat, .done []))) s

/-- A declared position is cleared (R19, R39): its piece's order, its record, its entry. -/
def Work.clearPosition (b p : Nat) (w : Work) : Work :=
  match (w.s.entry b p).declaredPiece with
  | some id => ((w.cancelOrderOf id).on (State.endRecord id)).on (State.setEntry b p .empty)
  | none => w

/-- The effects of CLEAR_BED (R39). -/
def State.clearBed (b : Nat) (s : State) : State :=
  (((List.range Config.positions).foldl (fun w p => w.clearPosition b p) s.work).on (State.freeBed b)).finish

/-- CLEAR_BED (R39). -/
def execClearBed (bed : Word) (s : State) : Host.Outcome State Fault Refusal :=
  hostStep (.clearBed bed) 0x11 (checked
    (fun s => guardAll [(bed.toNat < Config.beds, .range), ((s.bed bed.toNat).state == .set, .wrongState)])
    (fun _ s => (s.clearBed bed.toNat, .done []))) s

end Sys2Proof.Machine
end

