-- ==== Sys2Proof/Machine/Modes.lean ====
section
/-! DEFINITION. Mode Control, the attention sets' reading, the field link's states and arrivals, and the resets (chapters 10
and 11): plant mode, yard stop, plant time and ticks; TAKE_ATTENTION, IDENT, LINK_SETUP, PURGE; CAN events; resets. -/

namespace Sys2Proof.Machine

/-! ### Plant mode and yard stop (R176 to R179, R191) -/

/-- The plant word (section 11.5.4). -/
def State.plantWord (s : State) : DataWord := packed [(0, 2, s.mode.code), (8, 1, bit s.yardStop)]

/-- The data words of SET_MODE and SET_TIME (section 11.5.4). -/
def State.plantWords (s : State) : List DataWord := s.plantWord :: longWords s.time

/-- IDENT (R191). -/
def execIdent (s : State) : Host.Outcome State Fault Refusal :=
  hostStep .ident 0x01 (readOnly fun s => .done ([fullWord Config.partCode, fullWord Config.revisionCode] ++ s.plantWords
    ++ [packed [(0, 2, s.link.state.code), (4, 2, s.link.rate.code)]])) s

/-- Every bed zone's heat is forced off (R176, R178). -/
def State.heatOff (s : State) : State := s.forceZones (List.range Config.bedZones)

/-- A change of plant mode handed on (R176). -/
def State.changeMode (m : PlantMode) (s : State) : State :=
  if s.mode = m then s
  else
    let t := { s with mode := m }
    let t := if m = .standby then t.heatOff else t
    (t.work.applyModes s).finish

/-- SET_MODE (R176). R176 gives two refusals and no order between them: a mode code that names no mode is refused with RANGE
also while the yard stop is asserted (DESIGN CHOICE, log 39). -/
def execSetMode (mode : Word) (s : State) : Host.Outcome State Fault Refusal :=
  hostStep (.setMode mode) 0x03 (checked
    (fun s => match plantModeArg mode.toNat with
      | none => .error .range
      | some m => if s.yardStop then .error .mode else .ok m)
    (fun m s =>
      let t := s.changeMode m
      (t, .done t.plantWords))) s

/-- YARD_STOP_ASSERTED (R178). -/
def execYardStopAsserted (s : State) : Host.Outcome State Fault Refusal :=
  .next (if s.yardStop then s else ((({ s with yardStop := true } : State).heatOff).work.applyModes s).finish)

/-- YARD_STOP_RELEASED (R179). -/
def execYardStopReleased (s : State) : Host.Outcome State Fault Refusal :=
  .next (if s.yardStop then (({ s with yardStop := false } : State).work.applyModes s).finish else s)

/-! ### Plant time (R180, R181) -/

/-- The orders that a retry wait holds back and that a condition on the wait releases: their slots. -/
def State.heldBack (s : State) (due : Nat → Bool) : List (Nat × Order) :=
  s.records.filter fun e => e.2.state == .queued && e.2.retry.any due

/-- MS removes retry-not-before times; the cranes of the released orders select at the end of the step (R131). -/
def Work.releaseRetries (due : Nat → Bool) (w : Work) : Work :=
  (w.s.heldBack due).foldl (fun w e =>
    (w.on (State.modOrder e.1 fun o => { o with retry := none })).wantSelection e.2.crane) w

/-- What a new plant time does to HU and MS (R181). -/
def Work.setTime (t : Nat) (w : Work) : Work :=
  (w.on fun s => ({ s with time := t } : State).heatSetTime t).releaseRetries fun _ => true

/-- SET_TIME (R181). -/
def execSetTime (time : BitVec 32) (s : State) : Host.Outcome State Fault Refusal :=
  hostStep (.setTime time) 0x02 (fun s =>
    let t := (s.work.setTime time.toNat).finish
    (t, .done t.plantWords)) s

/-- MC's part of a tick (R180): plant time, with the effects of its return to 0, and the minute count. -/
def Work.clock (w : Work) : Work :=
  let w :=
    if w.s.time + 1 = Config.count32 then w.setTime 0 else w.on fun s => { s with time := s.time + 1 }
  w.on fun s => { s with minute := if s.minute = 59 then 0 else s.minute + 1 }

/-- One tick (R180): MC, then HU, LC and MS. -/
def State.tick (s : State) : State :=
  let w := s.work.clock.on (State.heatTick (s.minute == 59))
  let w := w.cranesTick
  (w.releaseRetries fun t => t ≤ w.s.time).finish

/-- TICK (R180). -/
def execTick (s : State) : Host.Outcome State Fault Refusal := .next s.tick

/-- A tick named by an event that falls in it is that tick where the event is due, and nothing otherwise (log 3). -/
def State.tickIf (due : Bool) (s : State) : State := if due then s.tick else s

/-- PLANT_MINUTE (R180): the sixtieth tick. -/
def execPlantMinute (s : State) : Host.Outcome State Fault Refusal := .next (s.tickIf (s.minute == 59))

/-- PRESET ends at the next tick (R82). -/
def State.presetDue (s : State) (b : Nat) : Bool :=
  s.minute == 59 && (s.bed b).phase == .preset && (s.bed b).phaseMinutes == (s.bed b).profile.preset

/-- PRESET_END (R82, R83). -/
def execPresetEnd (b : Fin 12) (s : State) : Host.Outcome State Fault Refusal := .next (s.tickIf (s.presetDue b.val))

/-- HOLD reaches its limit at the next tick (R84). -/
def State.holdDue (s : State) (b : Nat) : Bool :=
  s.minute == 59 && (s.bed b).phase == .hold && (s.bed b).profile.hold != 0
    && (s.bed b).profile.hold ≤ (s.bed b).phaseMinutes + 1

/-- HOLD_LIMIT (R84). -/
def execHoldLimit (b : Fin 12) (s : State) : Host.Outcome State Fault Refusal := .next (s.tickIf (s.holdDue b.val))

/-- A zone goes STALE at the next tick (R74); not at the one at which plant time returns to 0 (R181). -/
def State.staleDue (s : State) (z : Nat) : Bool :=
  s.time + 1 != Config.count32 && (s.zone z).state.trusted && (s.zone z).gap < s.time + 1 - (s.zone z).lastArrival

/-- STALE (R74). -/
def execStale (z : Fin 52) (s : State) : Host.Outcome State Fault Refusal := .next (s.tickIf (s.staleDue z.val))

/-- ACCEPT_EXPIRY (R153): the crane's accept timer reaches 0 at the next tick. -/
def execAcceptExpiry (c : Fin 4) (s : State) : Host.Outcome State Fault Refusal :=
  .next (s.tickIf ((s.crane c.val).state == .offered && (s.crane c.val).acceptTimer ≤ 1))

/-- LIFT_LIMIT_EXPIRY (R159): the crane's lift timer reaches 0 at the next tick. -/
def execLiftLimitExpiry (c : Fin 4) (s : State) : Host.Outcome State Fault Refusal :=
  .next (s.tickIf ((s.crane c.val).state == .working && (s.crane c.val).liftTimer ≤ 1))

/-- An order's retry wait ends at the next tick (R131). -/
def State.retryDue (s : State) (slot : Nat) : Bool :=
  match s.order slot with
  | some o => o.state == .queued && o.retry.any fun t => s.time + 1 == Config.count32 || t ≤ s.time + 1
  | none => false

/-- RETRY_WAIT_END (R131). -/
def execRetryWaitEnd (slot : Fin 128) (s : State) : Host.Outcome State Fault Refusal :=
  .next (s.tickIf (s.retryDue slot.val))

/-! ### Attention (R190) -/

/-- A word of sixteen zones of the zone attention set, the last of four (section 11.5.4). -/
def zoneBits (zones : List Nat) (i : Nat) : DataWord :=
  packed ((List.range (if i = 3 then 4 else 16)).map fun j => (j, 1, bit (zones.contains (16 * i + j))))

/-- A word of flags, bit b for member b. -/
def flagFields (low width : Nat) (l : List Nat) : List (Nat × Nat × Nat) :=
  (List.range width).map fun b => (low + b, 1, bit (l.contains b))

/-- The data words of TAKE_ATTENTION (R190, section 11.5.4). -/
def Attention.words (a : Attention) : List DataWord :=
  let ids := a.pieces.take Config.attentionPieces
  [packed (flagFields 0 12 a.beds), zoneBits a.zones 0, zoneBits a.zones 1, zoneBits a.zones 2, zoneBits a.zones 3,
    packed (flagFields 0 8 a.programs ++ flagFields 8 4 a.cranes), fullWord a.orders.length]
    ++ a.orders.map (fun e => handleWord ⟨e.1, e.2⟩)
    ++ [packed [(0, 9, ids.length), (15, 1, bit (Config.attentionPieces < a.pieces.length))]] ++ ids.flatMap idWords

/-- What TAKE_ATTENTION leaves: the piece ids beyond the 400 lowest (R190). -/
def Attention.taken (a : Attention) : Attention := { pieces := a.pieces.drop Config.attentionPieces }

/-- TAKE_ATTENTION (R190). -/
def execTakeAttention (s : State) : Host.Outcome State Fault Refusal :=
  hostStep .takeAttention 0x04 (fun s => ({ s with attn := s.attn.taken }, .done s.attn.words)) s

/-! ### PURGE (R182) -/

/-- No crane is OFFERED or WORKING and no order is UNRESOLVED (R182). -/
def State.nothingInLift (s : State) : Bool :=
  s.cranes.toList.all (fun r => !r.state.busy) && s.records.all fun e => e.2.state != .unresolved

/-- A block with every slot FREE or OUT, no footprint and no mark (R114). -/
def Block.purged (b : Block) : Block :=
  { b with slots := b.slots.filter (fun e => e.2.isOut), footprints := [], closed := [] }

/-- A mix that no live record names (R4). -/
def Mix.unused (x : Mix) : Mix := { x with inUse := 0 }

/-- A program after a PURGE ALL (R147). -/
def Program.purged (p : Program) : Program := { p with state := .idle, order := none }

/-- Every bed that is not FREE goes FREE (R44). -/
def State.freeBeds (s : State) : State :=
  (List.range Config.beds).foldl (fun s b => if (s.bed b).state = .free then s else s.freeBed b) s

/-- The effects of PURGE ALL (R182). -/
def State.purge (s : State) : State :=
  let s := { s with
    pieces := []
    mixes := s.mixes.map Mix.unused
    orders := []
    programs := s.programs.map Program.purged
    blocks := s.blocks.map Block.purged
    bays := Vector.replicate 4 {} }
  (List.range Config.blocks).foldl (fun s k => s.idleAmbient k) s.freeBeds

/-- PURGE with scope ALL, or with a word that names no scope (R182, log 24). -/
def execPurgeAll (scope : Word) (s : State) : Host.Outcome State Fault Refusal :=
  hostStep (.purgeAll scope) 0x06 (checked
    (fun s => guardAll [
      (scope.toNat == 1, .range), (s.mode == .standby, .mode), (s.nothingInLift, .wrongState)])
    (fun _ s => (s.purge, .done []))) s

/-- The slots of the ended orders. -/
def State.endedSlots (s : State) : List Nat := (s.records.filter fun e => !e.2.state.live).map (·.1)

/-- Every ended order is closed (R135, R182). -/
def State.closeEnded (s : State) : State :=
  (s.endedSlots.foldl (fun w slot => (w.on (State.dropOrder slot)).hand .recordFreed) s.work).finish

/-- PURGE with scope ORDERS (R182). -/
def execPurgeOrders (s : State) : Host.Outcome State Fault Refusal :=
  hostStep .purgeOrders 0x06 (fun s => (s.closeEnded, .done [fullWord s.endedSlots.length])) s

/-! ### The field link (R192, R193, R196) -/

/-- The controller is started at a rate: DOWN until it has seen eleven recessive bits, its slots empty (R192). -/
def Link.start (r : LinkRate) (l : Link) : Link := { l.emptied with state := .down, rate := r, wait := .starting }

/-- The effects of an accepted LINK_SETUP (R192). -/
def State.setupLink (r : LinkRate) (s : State) : State :=
  match s.link.state with
  | .off | .down => s.modLink (Link.start r)
  | .up => if s.link.rate = r then s else ((s.modLink (Link.start r)).work.linkDown).finish

/-- LINK_SETUP (R192). -/
def execLinkSetup (rate : Word) (s : State) : Host.Outcome State Fault Refusal :=
  hostStep (.linkSetup rate) 0x05 (checked
    (fun _ => match linkRateArg rate.toNat with
      | some r => .ok r
      | none => .error .range)
    (fun r s => (s.setupLink r, .done []))) s

/-- BUS_OFF (R196): an UP link goes DOWN with its slots emptied, and LC is told (R163). -/
def execBusOff (s : State) : Host.Outcome State Fault Refusal :=
  .next (if s.link.state = .up then
      ((s.modLink fun l => { l.emptied with state := .down, wait := .busOff }).work.linkDown).finish
    else s)

/-- A DOWN link that waits for a cause goes UP; no crane changes (R163, R192, R196). -/
def State.linkRises (wait : LinkWait) (s : State) : State :=
  if s.link.state = .down ∧ s.link.wait = wait then s.modLink fun l => { l with state := .up } else s

/-- BUS_REJOIN (R196): the 128 runs of eleven recessive bits have been seen. -/
def execBusRejoin (s : State) : Host.Outcome State Fault Refusal := .next (s.linkRises .busOff)
/-- LINK_UP (R192): a started controller has seen eleven recessive bits. -/
def execLinkUp (s : State) : Host.Outcome State Fault Refusal := .next (s.linkRises .starting)

/-- A temperature sample for a zone (R73): HU and MU take it, and the pieces listed reach MS (R66). -/
def State.sample (z : Nat) (v : Word) (s : State) : State :=
  let t := s.takeSample z v
  (t.2.foldl (fun w id => w.hand (.pieceListed id)) t.1.work).finish

/-- SAMPLE (R73). -/
def execSample (z : Fin 52) (v : Word) (s : State) : Host.Outcome State Fault Refusal := .next (s.sample z.val v)

/-- The two bytes of a temperature, byte 0 most significant (section 11.3). -/
def sampleWord (d : List Byte) : Word := d.getD 0 0 ++ d.getD 1 0

/-- A crane frame's event, by its event code (section 11.5.2); codes outside 1 to 6 are ignored (R193). -/
def Work.craneFrame (c : Nat) (d : List Byte) (w : Work) : Work :=
  let e : CraneWord := ⟨d.getD 1 0, d.getD 2 0, d.getD 3 0⟩
  match (d.getD 0 0).toNat with
  | 1 => w.ready c
  | 2 => w.accept c e
  | 3 => w.refuse c e
  | 4 => w.hook c e
  | 5 => w.landEvent c e
  | 6 => w.craneFault c e
  | _ => w

/-- A frame of the identifier plan reaches its block (R193). -/
def State.frameArrives (f : CanFrame) (s : State) : State :=
  let n := f.ident.toNat
  if f.extended || f.remote then s
  else if 0x300 ≤ n ∧ n < 0x300 + Config.zones ∧ f.data.length = 2 then s.sample (n - 0x300) (sampleWord f.data)
  else if 0x180 ≤ n ∧ n < 0x180 + Config.cranes ∧ f.data.length = 4 then
    (s.work.craneFrame (n - 0x180) f.data).finish
  else s

/-- FRAME_RECEIVED (R193): taken while the link is UP. -/
def execFrameReceived (f : CanFrame) (s : State) : Host.Outcome State Fault Refusal :=
  .next (if s.link.state = .up then s.frameArrives f else s)

/-! ### Resets -/

/-- POWER_ON_RESET: every record at its power-on value; the input levels, the contactor chain and the model's own fields
stay (R183, R197, logs 10 and 26). -/
def execPowerOnReset (s : State) : Host.Outcome State Fault Refusal :=
  .next { State.reset with
    yardStop := s.yardStop
    port := { State.reset.port with selLow := s.port.selLow }
    line := { State.reset.line with chain := s.line.chain }
    freeCount := s.freeCount
    pending := s.pending }

/-- What a warm reset does to the port (R188): the frame being executed is carried on, its response to be discarded. -/
def Port.warmReset (p : Port) : Port :=
  { selLow := p.selLow, carried := if p.state = .executing then some p.frame else p.carried }

/-- Every output off, with the counts of its mode (R91). -/
def Heater.warmReset (h : Heater) : Heater :=
  { h with accumulator := 0, window := 0, onLeft := 0, duty := 0, output := false }

/-- A zone without work goes to IDLE (R91). -/
def State.restZone (z : Nat) (s : State) : State := s.modZone z fun r => { r with state := .idle, faultRun := 0 }

/-- A warm reset of HU and of the heater line (R91, R197). -/
def State.heatWarmReset (s : State) : State :=
  let busy := (List.range Config.zones).filter s.hasWork
  let idle := (List.range Config.zones).filter fun z => !s.hasWork z
  let t := idle.foldl (fun s z => s.restZone z) (s.armZones busy)
  { t with
    heaters := t.heaters.map Heater.warmReset
    line := { State.reset.line with chain := t.line.chain } }

/-- A warm reset of the link (R192): a controller that ran is restarted at its rate. -/
def Link.warmReset (l : Link) : Link := if l.state = .off then l else l.start l.rate

/-- A warm reset of one crane and its current order (R136, R160, R164). -/
def Work.craneWarmReset (c : Nat) (w : Work) : Work :=
  match (w.s.crane c).state with
  | .offline => w
  | .offered => (w.requeueCurrent c).goOffline c
  | .working => (w.unresolveCurrent c).goOffline c
  | .idle | .held | .stopped => w.goOffline c

/-- WARM_RESET (R22, R43, R69, R91, R114, R136, R147, R164, R175, R183, R188, R192, R197); the cranes are handled by
ascending crane number (DESIGN CHOICE, log 38). -/
def execWarmReset (s : State) : Host.Outcome State Fault Refusal :=
  let t := { s with mode := .standby, port := s.port.warmReset, link := s.link.warmReset }
  .next ((List.range Config.cranes).foldl (fun w c => w.craneWarmReset c) t.heatWarmReset.work).finish

end Sys2Proof.Machine
end

