-- ==== Sys2Proof/Machine/Port.lean ====
section
/-! DEFINITION. The words and edges of the supervisory port (sections 11.1): receiving a frame, validating it, shifting a
response out, overrun and SEL. -/

namespace Sys2Proof.Machine

/-- Change the port. -/
def State.modPort (f : Port → Port) (s : State) : State := { s with port := f s.port }

/-- Validation of a complete frame (R184, R185): answered at once, or handed on in EXECUTING. -/
def State.validate (frame : List Word) (s : State) : State :=
  let header := frame.headD 0
  match frameCheck header with
  | .unknownKind => s.respond (headerKind header) .unknown
  | .badLength => s.respond (headerKind header) (.failed .badLength)
  | .handOn => s.modPort fun p => { p with state := .executing, frame := frame }

/-- A word of a frame has been stored: validation once the frame is complete, RECEIVING before (R184). -/
def State.stored (frame : List Word) (s : State) : State :=
  if headerLength (frame.headD 0) ≤ frame.length then s.validate frame
  else s.modPort fun p => { p with state := .receiving, frame := frame }

/-- A word clocked in while EXECUTING is discarded and sets the overrun flag (R186). -/
def State.overrun (s : State) : State := s.modPort fun p => { p with overrun := true }

/-- The next response word is shifted out; after the last the port is IDLE (R187). -/
def State.shiftOut (s : State) : State :=
  match s.port.response with
  | w :: v :: rest => s.modPort fun p => { p with sdo := w, response := v :: rest }
  | [w] => s.modPort fun p => { p with sdo := w, response := [], state := .idle }
  | [] => s.modPort fun p => { p with state := .idle }

/-- SDO shifts out 0 outside RESPONDING (R184). -/
def State.shiftZero (s : State) : State := s.modPort fun p => { p with sdo := 0 }

/-- A complete word is clocked with SEL low (R184, R186, R187). -/
def State.clockWord (w : Word) (s : State) : State :=
  match s.port.state with
  | .idle => s.shiftZero.stored [w]
  | .receiving => s.shiftZero.stored (s.port.frame ++ [w])
  | .executing => s.shiftZero.overrun
  | .responding => s.shiftOut

/-- FRAME_WORD: a complete word clocked in; ignored while SEL is high (R184). -/
def execFrameWord (word : Word) (s : State) : Host.Outcome State Fault Refusal :=
  .next (if s.port.selLow then s.clockWord word else s)

/-- RESPONSE_WORD: a complete word clocked while RESPONDING, and so with SEL low (R187). -/
def execResponseWord (s : State) : Host.Outcome State Fault Refusal :=
  .next (if s.port.selLow ∧ s.port.state = .responding then s.shiftOut else s)

/-- OVERRUN: a complete word clocked in while EXECUTING (R186). -/
def execOverrun (s : State) : Host.Outcome State Fault Refusal :=
  .next (if s.port.selLow ∧ s.port.state = .executing then s.shiftZero.overrun else s)

/-- What a rising SEL does to a port (R184, R186, R187). -/
def Port.release (p : Port) : Port :=
  match p.state with
  | .receiving => { p with selLow := false, state := .idle, frame := [] }
  | .responding => { p with selLow := false, state := .idle, response := [] }
  | .idle | .executing => { p with selLow := false }

/-- SEL_RISE (R184, R186, R187). -/
def execSelRise (s : State) : Host.Outcome State Fault Refusal := .next (s.modPort Port.release)

/-- SEL_FALL: words are counted from this edge (R184). -/
def execSelFall (s : State) : Host.Outcome State Fault Refusal := .next (s.modPort fun p => { p with selLow := true })

/-- A complete frame is answered by its header alone (R184, R185); no frame is received while one is EXECUTING. -/
def State.answerFrame (check : FrameCheck) (header : Word) (r : Reply) (s : State) : State :=
  if s.port.state ≠ .executing ∧ frameCheck header = check then s.endExecution (headerKind header) r else s

/-- UNKNOWN_KIND: a frame whose kind names no command (R185). -/
def execUnknownKind (header : Word) (s : State) : Host.Outcome State Fault Refusal :=
  .next (s.answerFrame .unknownKind header .unknown)

/-- BAD_LENGTH: a frame whose length is 0 or not its command's (R184, R185). -/
def execBadLength (header : Word) (s : State) : Host.Outcome State Fault Refusal :=
  .next (s.answerFrame .badLength header (.failed .badLength))

end Sys2Proof.Machine
end

