-- ==== Sys2Proof/Machine/Dispatch.lean ====
section
/-! DEFINITION. The meaning of each command: one arm for each row of spec/opcode_table.json. -/

namespace Sys2Proof.Machine

def exec (i : Instr) (s : State) : Host.Outcome State Fault Refusal :=
  match i with
  | .ident => Sys2Proof.Machine.execIdent s
  | .setTime time => Sys2Proof.Machine.execSetTime time s
  | .setMode mode => Sys2Proof.Machine.execSetMode mode s
  | .takeAttention => Sys2Proof.Machine.execTakeAttention s
  | .linkSetup rate => Sys2Proof.Machine.execLinkSetup rate s
  | .purgeAll scope => Sys2Proof.Machine.execPurgeAll scope s
  | .purgeOrders => Sys2Proof.Machine.execPurgeOrders s
  | .loadMix mix args => Sys2Proof.Machine.execLoadMix mix args s
  | .readMix mix => Sys2Proof.Machine.execReadMix mix s
  | .setBed bed kind positions zones map => Sys2Proof.Machine.execSetBed bed kind positions zones map s
  | .declare bed position id mark mix footprint => Sys2Proof.Machine.execDeclare bed position id mark mix footprint s
  | .cast bed => Sys2Proof.Machine.execCast bed s
  | .detensioned bed => Sys2Proof.Machine.execDetensioned bed s
  | .bedStatus bed => Sys2Proof.Machine.execBedStatus bed s
  | .clearBed bed => Sys2Proof.Machine.execClearBed bed s
  | .setProfile bed preset ramp peak hold cool finish => Sys2Proof.Machine.execSetProfile bed preset ramp peak hold cool finish s
  | .zoneSetup zone gap gain cap mode => Sys2Proof.Machine.execZoneSetup zone gap gain cap mode s
  | .zoneStatus zone => Sys2Proof.Machine.execZoneStatus zone s
  | .getPiece id => Sys2Proof.Machine.execGetPiece id s
  | .findAt loc => Sys2Proof.Machine.execFindAt loc s
  | .amendPiece id flags mark mix footprint => Sys2Proof.Machine.execAmendPiece id flags mark mix footprint s
  | .scrapPiece id => Sys2Proof.Machine.execScrapPiece id s
  | .retirePiece id => Sys2Proof.Machine.execRetirePiece id s
  | .holdPiece id => Sys2Proof.Machine.execHoldPiece id s
  | .unholdPiece id => Sys2Proof.Machine.execUnholdPiece id s
  | .releasePiece id => Sys2Proof.Machine.execReleasePiece id s
  | .defineBlock block rows perRow tiers => Sys2Proof.Machine.execDefineBlock block rows perRow tiers s
  | .readRow block row => Sys2Proof.Machine.execReadRow block row s
  | .findSlot block footprint => Sys2Proof.Machine.execFindSlot block footprint s
  | .slotOut loc => Sys2Proof.Machine.execSlotOut loc s
  | .slotIn loc => Sys2Proof.Machine.execSlotIn loc s
  | .queryEmptyBed bed => Sys2Proof.Machine.execQueryEmptyBed bed s
  | .queryEmptyBlock block first last => Sys2Proof.Machine.execQueryEmptyBlock block first last s
  | .orderMove id dest cls crane key => Sys2Proof.Machine.execOrderMove id dest cls crane key s
  | .orderDispatch id bay cls crane key => Sys2Proof.Machine.execOrderDispatch id bay cls crane key s
  | .setClass handle cls key => Sys2Proof.Machine.execSetClass handle cls key s
  | .cancelOrder handle => Sys2Proof.Machine.execCancelOrder handle s
  | .orderStatus handle => Sys2Proof.Machine.execOrderStatus handle s
  | .closeOrder handle => Sys2Proof.Machine.execCloseOrder handle s
  | .startTransfer args => Sys2Proof.Machine.execStartTransfer args s
  | .stopTransfer program => Sys2Proof.Machine.execStopTransfer program s
  | .resumeTransfer program => Sys2Proof.Machine.execResumeTransfer program s
  | .transferStatus program => Sys2Proof.Machine.execTransferStatus program s
  | .craneSetup crane beds areas limit table => Sys2Proof.Machine.execCraneSetup crane beds areas limit table s
  | .craneStatus crane => Sys2Proof.Machine.execCraneStatus crane s
  | .confirmLiftAtSource handle outcome => Sys2Proof.Machine.execConfirmLiftAtSource handle outcome s
  | .confirmLiftAtDestination handle => Sys2Proof.Machine.execConfirmLiftAtDestination handle s
  | .confirmLiftLost handle => Sys2Proof.Machine.execConfirmLiftLost handle s
  | .unknownKind header => Sys2Proof.Machine.execUnknownKind header s
  | .badLength header => Sys2Proof.Machine.execBadLength header s
  | .selRise => Sys2Proof.Machine.execSelRise s
  | .overrun => Sys2Proof.Machine.execOverrun s
  | .sample zone value => Sys2Proof.Machine.execSample zone value s
  | .ready crane e => Sys2Proof.Machine.execReady crane e s
  | .accept crane e => Sys2Proof.Machine.execAccept crane e s
  | .refuse crane e => Sys2Proof.Machine.execRefuse crane e s
  | .hooked crane e => Sys2Proof.Machine.execHooked crane e s
  | .landed crane e => Sys2Proof.Machine.execLanded crane e s
  | .fault crane e => Sys2Proof.Machine.execFault crane e s
  | .tick => Sys2Proof.Machine.execTick s
  | .plantMinute => Sys2Proof.Machine.execPlantMinute s
  | .presetEnd bed => Sys2Proof.Machine.execPresetEnd bed s
  | .holdLimit bed => Sys2Proof.Machine.execHoldLimit bed s
  | .stale zone => Sys2Proof.Machine.execStale zone s
  | .acceptExpiry crane => Sys2Proof.Machine.execAcceptExpiry crane s
  | .liftLimitExpiry crane => Sys2Proof.Machine.execLiftLimitExpiry crane s
  | .retryWaitEnd slot => Sys2Proof.Machine.execRetryWaitEnd slot s
  | .yardStopAsserted => Sys2Proof.Machine.execYardStopAsserted s
  | .yardStopReleased => Sys2Proof.Machine.execYardStopReleased s
  | .frameReceived frame => Sys2Proof.Machine.execFrameReceived frame s
  | .transmitAcknowledged => Sys2Proof.Machine.execTransmitAcknowledged s
  | .transmissionFailed => Sys2Proof.Machine.execTransmissionFailed s
  | .busOff => Sys2Proof.Machine.execBusOff s
  | .busRejoin => Sys2Proof.Machine.execBusRejoin s
  | .linkUp => Sys2Proof.Machine.execLinkUp s
  | .heaterLatch => Sys2Proof.Machine.execHeaterLatch s
  | .powerOnReset => Sys2Proof.Machine.execPowerOnReset s
  | .warmReset => Sys2Proof.Machine.execWarmReset s
  | .frameWord word => Sys2Proof.Machine.execFrameWord word s
  | .responseWord => Sys2Proof.Machine.execResponseWord s
  | .selFall => Sys2Proof.Machine.execSelFall s

end Sys2Proof.Machine
end

