-- ==== Sys2Proof/Machine/Step.lean ====
section
/-! DEFINITION. One step of the PY24: the command at the front of the queue is taken; an empty queue idles (log 5). -/

namespace Sys2Proof.Machine

/-- The state without its queue's front. -/
def State.withPending (s : State) (q : List Instr) : State := { s with pending := q }

/-- One step: the command at the front runs on the state with the queue's rest; an empty queue idles (log 5). -/
def step (s : State) : Host.Outcome State Fault Refusal :=
  match s.pending with
  | [] => .next s
  | c :: rest => exec c (s.withPending rest)

/-- The state with the command that a word spells at the front of its queue; unchanged where the word spells none. -/
def State.withFetchWord (s : State) (nbits w : Nat) : State :=
  match decodeTableWord nbits w with
  | some c => s.withPending (c :: s.pending)
  | none => s

end Sys2Proof.Machine
end

