-- ==== Sys2Proof/Safety.lean ====
section
/-! DEFINITION. What the manual promises of every state, as invariants that each step keeps; what a locked record keeps
(R169); when the supervisory port hands a command on; what the end of a step may change at most, and what it leaves in the
slots of a crane; and what an evaluation, a dig pass, a selection, a change of effective mode and a plant minute leave. -/

namespace Sys2Proof.Machine

/-! ### Taking a command -/

/-- The port hands command `c` to its block and will answer it: in EXECUTING `c` is the frame's command, and otherwise
`c` is not a command that a warm reset left without an answer (R185, R188, logs 1 and 29). -/
abbrev State.Hears (s : State) (c : Instr) : Prop := s.takes c = true ∧ s.isCarried c = false

/-- An order's claim is a stock slot or a bay place, the two kinds there are (section 6.1). -/
def Order.claimSound (o : Order) : Bool :=
  match o.reserved with
  | none => true
  | some (.stock _ _ _ _) => true
  | some (.bay _) => true
  | some _ => false

/-- Crane `c` alone has the order in a slot as its current order. -/
abbrev State.SoleLift (s : State) (c slot : Nat) : Prop := ∀ c' < Config.cranes, s.currentSlot c' = some slot → c' = c

/-- No timer of a crane runs out in the coming tick (R153, R159). -/
abbrev State.NoExpiry (s : State) : Prop :=
  ∀ c < Config.cranes, ((s.crane c).state = .offered → 2 ≤ (s.crane c).acceptTimer)
    ∧ ((s.crane c).state = .working → 2 ≤ (s.crane c).liftTimer)

/-- An order is that of a program in STOPPING, which ends it where it returns to QUEUED (R144). -/
def State.ofStopping (s : State) (o : Order) : Bool :=
  match o.origin with
  | .program n => (s.program n).state == .stopping
  | _ => false

/-- The order in a slot stays QUEUED where it returns to QUEUED. -/
abbrev State.Requeues (s : State) (slot : Nat) : Prop := ∀ o ∈ s.order slot, s.ofStopping o = false

/-- No crane is OFFERED an order of a program in STOPPING. -/
abbrev State.NoStopping (s : State) : Prop :=
  ∀ c < Config.cranes, (s.crane c).state = .offered → ∀ slot ∈ s.currentSlot c, s.Requeues slot

/-! ### The heat law (R87) -/

/-- One bed zone's output and setpoint against the conditions of R87. An output is on only where R87 allows a duty other
than 0. A setpoint belongs to a zone of a cycle whose ramp has begun or that cools (R83, R84). -/
abbrev State.ZoneHeat (s : State) (z : Nat) : Prop :=
  ((s.heater z).output = true →
    (s.zone z).state.trusted = true ∧ (s.bed (z / 4)).phase.heats = true ∧ (s.heater z).setpoint.isSome = true
      ∧ s.mode ≠ .standby ∧ s.yardStop = false)
  ∧ ((s.heater z).setpoint.isSome = true →
    z % 4 < (s.bed (z / 4)).zoneCount ∧ (s.bed (z / 4)).phase ≠ .off ∧ (s.bed (z / 4)).phase ≠ .preset)

/-- Heat only where it is allowed: the conditions of R87 for every bed zone, and of section 4.4 for every bed; and no
setpoint above its bed's cap (R85). -/
structure State.HeatLaw (s : State) : Prop where
  zones : ∀ z < Config.bedZones, s.ZoneHeat z
  caps : ∀ z < Config.bedZones, ∀ v ∈ (s.heater z).setpoint, ∀ c ∈ (s.bed (z / 4)).cap, v ≤ c
  /-- A bed with no cast cycle has phase OFF (section 4.4). -/
  phases : ∀ b < Config.beds, (s.bed b).state = .free ∨ (s.bed b).state = .set → (s.bed b).phase = .off

/-! ### The bounds of the records -/

/-- The figures of a heater: setpoint and carry (R83, R86), accumulator, window, on-seconds left, duty, duty cap and gain
(R79, R87 to R89). -/
abbrev Heater.Bounded (h : Heater) : Prop :=
  (∀ v ∈ h.setpoint, -400 ≤ v ∧ v ≤ 1200) ∧ h.carry < 60
  ∧ h.accumulator < 1024 ∧ h.window < 64 ∧ h.onLeft ≤ 63 ∧ h.duty ≤ 1023 ∧ h.dutyCap ≤ 1023 ∧ 1 ≤ h.gain ∧ h.gain ≤ 64

/-- The figures of a zone (R49, R71, R72, R79): a temperature the part holds, three faults in a row, a gap limit. -/
abbrev Zone.Bounded (r : Zone) : Prop :=
  -400 ≤ r.lastGood ∧ r.lastGood ≤ 1200 ∧ r.faultRun ≤ 3 ∧ 60 ≤ r.gap ∧ r.gap ≤ 900

/-- The figures of a piece: maturity, residual and overheat count (R55, R57, R58). -/
abbrev Piece.Bounded (p : Piece) : Prop :=
  p.maturity ≤ Config.maturityMax ∧ p.residual < Config.residualUnits ∧ p.overheat ≤ 255

/-- The figures of a heat profile (R81). -/
abbrev Profile.Bounded (x : Profile) : Prop :=
  x.preset ≤ 600 ∧ 1 ≤ x.ramp ∧ x.ramp ≤ 350 ∧ -400 ≤ x.peak ∧ x.peak ≤ 1200 ∧ x.hold ≤ 2880 ∧ 1 ≤ x.cool ∧ x.cool ≤ 350
  ∧ -400 ≤ x.finish ∧ x.finish ≤ 1200

/-- The figures of a bed: its position and zone counts (R28), its setpoint cap (R31), its not-yet-release count (R32) and
its profile. -/
abbrev Bed.Bounded (r : Bed) : Prop :=
  1 ≤ r.positions ∧ r.positions ≤ 24 ∧ 1 ≤ r.zoneCount ∧ r.zoneCount ≤ 4 ∧ (∀ c ∈ r.cap, 370 ≤ c ∧ c ≤ 770)
  ∧ r.notYet ≤ 24 ∧ r.profile.Bounded

/-- A curve that LOAD_MIX accepts: maturities that rise from 0, strengths that do not fall, both in range (R46). -/
def Mix.curveSound (x : Mix) : Bool :=
  (vget x.curve 0).1 == 0 && rising (x.curve.toList.map (·.1)) && notFalling (x.curve.toList.map (·.2))
    && x.curve.toList.all fun e => e.1 ≤ Config.maturityMax && e.2 ≤ 1200

/-- The figures of a mix (R45, R46): those of an accepted LOAD_MIX, or zeros where none has been loaded. -/
abbrev Mix.Bounded (x : Mix) : Prop :=
  (x.loaded = true → -200 ≤ x.t0 ∧ x.t0 ≤ 100 ∧ 400 ≤ x.tmax ∧ x.tmax ≤ 800 ∧ 1 ≤ x.limit ∧ x.limit ≤ 255
    ∧ x.curveSound = true ∧ x.strip ≤ x.release ∧ x.release ≤ x.dispatch ∧ x.dispatch ≤ 1200)
  ∧ (x.loaded = false → x = { inUse := x.inUse })

/-- The figures of a block: a defined block has rows, stacks and tiers in range (R92). -/
abbrev Block.Bounded (b : Block) : Prop :=
  b.defined = true → 1 ≤ b.rows ∧ b.rows ≤ 16 ∧ 1 ≤ b.perRow ∧ b.perRow ≤ 32 ∧ 1 ≤ b.tiers ∧ b.tiers ≤ 6

/-- The figures listed here lie in the ranges their rules give them. -/
structure State.Bounds (s : State) : Prop where
  /-- Plant time, the seconds of the minute and the creation counter (R116, R180). -/
  clock : s.time < Config.count32 ∧ s.minute < 60 ∧ s.counter < Config.count32
  /-- The tags of the order slots have 8 bits (R115). -/
  tags : ∀ i < Config.orderSlots, vget s.tags i < 256
  heaters : ∀ z < Config.bedZones, (s.heater z).Bounded
  zones : ∀ z < Config.zones, (s.zone z).Bounded
  beds : ∀ b < Config.beds, (s.bed b).Bounded
  /-- The lift limit of a crane (R149). -/
  cranes : ∀ c < Config.cranes, 60 ≤ (s.crane c).limit ∧ (s.crane c).limit ≤ 3600
  blocks : ∀ k < Config.blocks, (s.block k).Bounded
  /-- A bay never holds more than sixteen pieces and claims (R107). -/
  bays : ∀ b < Config.bays, (s.bay b).count ≤ Config.bayRoom
  pieces : ∀ e ∈ s.pieces, e.2.Bounded
  /-- A piece's mix is a loaded one, and its strength lies within the range of curve strengths (R11, R15, R46, R61). -/
  strengths : ∀ e ∈ s.pieces, e.2.mix < Config.mixes ∧ (s.mix e.2.mix).loaded = true ∧ e.2.strength ≤ 1200
  /-- At most 1024 records are live (R1). -/
  room : s.pieces.length ≤ Config.maxPieces
  mixes : ∀ m < Config.mixes, (s.mix m).Bounded
  /-- A program's item number counts the items it has placed and skipped (section 7.1). -/
  programs : ∀ n < Config.programs, (s.program n).item = (s.program n).placed + (s.program n).skipped

/-! ### Canonical tables -/

/-- Every table and set has its one canonical form, so that equal contents are equal data. -/
structure State.Canonical (s : State) : Prop where
  pieces : twf s.pieces = true
  orders : twf s.orders = true
  blocks : ∀ k < Config.blocks,
    twf (s.block k).slots = true ∧ twf (s.block k).footprints = true ∧ srising (s.block k).closed = true
  bays : ∀ b < Config.bays, srising (s.bay b).pieces = true
  hooks : ∀ c < Config.cranes, srising (s.crane c).hookCell = true
  attention : srising s.attn.beds = true ∧ srising s.attn.zones = true ∧ srising s.attn.pieces = true
    ∧ twf s.attn.orders = true ∧ srising s.attn.programs = true ∧ srising s.attn.cranes = true

/-! ### The indexes, the claims and the lifts agree (R5, R9, R14, R94, R107) -/

/-- The place that a piece's location names lists the piece: a CAST entry, an OCCUPIED slot, a hook cell, a bay's set, or
its home entry while it is DECLARED (R5, R14). -/
def State.listsAt (s : State) (id : Nat) (p : Piece) : Bool :=
  match p.loc with
  | .none => s.entry p.homeBed p.homePos == .declared id
  | .bed b pos => s.entry b pos == .cast id
  | .stock k r st t => (s.block k).within r st t && (s.block k).cell r st t == some (.occupied id)
  | .hook c => (s.crane c).hookCell.contains id
  | .bay b => (s.bay b).pieces.contains id

/-- The live piece of an id stands at a location. -/
def State.standsAt (s : State) (id : Nat) (l : Loc) : Bool := (s.piece id).any fun p => p.loc == l

/-- What a bed position lists stands there, or is DECLARED with it as its home (R14, R26). -/
def State.entryAgrees (s : State) (b pos : Nat) : Bool :=
  match s.entry b pos with
  | .declared id => (s.piece id).any fun p => p.loc == .none && p.homeBed == b && p.homePos == pos
  | .cast id => s.standsAt id (.bed b pos)
  | _ => true

/-- What a slot's cell names stands in the slot, on an OCCUPIED base, or has it reserved; the key is that of a slot within
the block (R94, R96). -/
def State.cellAgrees (s : State) (k key : Nat) (c : Cell) : Bool :=
  (s.block k).within (key / 256) (key / 8 % 32) (key % 8) && match c with
    | .occupied id => s.standsAt id (.stock k (key / 256) (key / 8 % 32) (key % 8))
      && (key % 8 == 0 || (s.block k).occupied (key / 256) (key / 8 % 32) (key % 8 - 1))
    | .reserved h => (s.order h.slot).any fun o =>
        o.tag == h.tag && o.reserved == some (.stock k (key / 256) (key / 8 % 32) (key % 8))
    | .out => true

/-- The live orders that hold a place in a bay. -/
def State.bayClaims (s : State) (b : Nat) : Nat := (s.orders.filter fun e => e.2.reserved == some (.bay b)).length

/-- A bed's entries fit its state (R26, R27): none in FREE, none cast in SET, none DECLARED after CAST, and none open but in
OPEN. -/
def Bed.entriesFit (r : Bed) : Bool :=
  r.entries.toList.all fun e => match r.state, e with
    | .free, e => e == .empty
    | .set, .empty => true
    | .set, .declared _ => true
    | .set, _ => false
    | .opened, e => !e.isDeclared
    | _, e => !e.isDeclared && !e.isOpen

/-- A piece that stands on a bed stands on an OPEN one. -/
def State.onOpenBed (s : State) (p : Piece) : Bool :=
  match p.loc with
  | .bed b _ => (s.bed b).state == .opened
  | _ => true

/-- A piece agrees with the rest (R5, R7, R9, R10): listed where it stands, DECLARED exactly while it stands nowhere, on an
OPEN bed once it is LIFTABLE there, bound to a live order that names it, and bound while it hangs on a hook. -/
structure State.PieceAgrees (s : State) (id : Nat) (p : Piece) : Prop where
  listed : s.listsAt id p = true
  declared : p.stage = .declared ↔ p.loc = .none
  opened : p.stage = .liftable → s.onOpenBed p = true
  bound : ∀ h ∈ p.order, ((s.order h.slot).any fun o => o.tag == h.tag && o.state.live && o.piece == id) = true
  hooked : p.loc.isHook = true → p.order.isSome = true

/-- An order's claim is held for it (R94, R102, R107). -/
def State.claimAgrees (s : State) (slot : Nat) (o : Order) : Bool :=
  match o.reserved with
  | none => true
  | some (.stock k r st t) =>
    (s.block k).within r st t && (s.block k).cell r st t == some (.reserved (o.handle slot))
  | some (.bay b) => b < Config.bays
  | some _ => false

/-- Where the piece of a lift is (R153, R156, R160): at the order's source until it is hooked, and then on its crane's hook,
with a bed source's entry left open for the order. -/
def State.liftAgrees (s : State) (slot : Nat) (o : Order) (p : Piece) : Bool :=
  match p.loc with
  | .hook c => c == o.crane && o.state != .offered && match o.source with
    | .bed b pos => s.entry b pos == .vacated (some (o.handle slot))
    | .stock _ _ _ _ => true
    | .bay b => b < Config.bays
    | _ => false
  | l => o.source == l

/-- A destination's bay is one of the four. -/
def Dest.bayExists : Dest → Bool
  | .bay b => b < Config.bays
  | _ => true

/-- A claim on a slot above tier 0 stands on an OCCUPIED base. -/
def State.baseFilled (s : State) (o : Order) : Bool :=
  match o.reserved with
  | some (.stock k r st t) => t == 0 || (s.block k).occupied r st (t - 1)
  | _ => true

/-- An explicit slot lies in another stack than the order's piece. -/
def State.leavesStack (s : State) (o : Order) : Bool :=
  match o.dest with
  | .slot k r st _ => (s.piece o.piece).all fun p => !(excludedStacks p none k).contains (r, st)
  | _ => true

/-- An order agrees with the rest (R9, R10, R94, R96, R104, R107, R117, R119, R153, R155). -/
structure State.OrderAgrees (s : State) (slot : Nat) (o : Order) : Prop where
  slots : slot < Config.orderSlots
  bay : o.dest.bayExists = true
  claim : s.claimAgrees slot o = true
  /-- A live order's piece is a live record bound to it. -/
  bound : o.state.live = true → ((s.piece o.piece).any fun p => p.order == some (o.handle slot)) = true
  /-- An ended order and a PARKED one hold no claim. -/
  unclaimed : o.state.live = false ∨ o.state = .parked → o.reserved = none
  /-- From QUEUED on an order holds its claim, and its piece is LIFTABLE. -/
  ready : o.state = .queued ∨ o.state.inLift = true → o.reserved.isSome = true
    ∧ ((s.piece o.piece).any fun p => p.stage == .liftable) = true
  /-- From QUEUED on a claim above tier 0 stands on an OCCUPIED base, and nothing stands or is claimed above the piece. -/
  based : o.state = .queued ∨ o.state.inLift = true → s.baseFilled o = true
  clear : o.state = .queued ∨ o.state.inLift = true → ((s.piece o.piece).all fun p => !s.buried p) = true
  /-- An explicit slot does not lie in the stack that the piece stands in. -/
  apart : o.state.live = true → s.leavesStack o = true
  /-- A piece hangs on a hook only for a WORKING or UNRESOLVED order. -/
  waiting : o.state.unoffered = true → ((s.piece o.piece).all fun p => !p.loc.isHook) = true
  lift : o.state.inLift = true → ((s.piece o.piece).any fun p => s.liftAgrees slot o p) = true
  current : o.state = .offered ∨ o.state = .working → (s.crane o.crane).order = some (o.handle slot)
  attempts : o.attempts ≤ (if o.state.live then 2 else 3)

/-- A crane's current order is OFFERED or WORKING with it, and its hooked flag tells where the piece is (R153, R156). -/
def State.craneAgrees (s : State) (c : Nat) : Bool :=
  match (s.crane c).order with
  | none => !(s.crane c).state.busy
  | some h => (s.order h.slot).any fun o => o.tag == h.tag && o.crane == c
      && ((s.crane c).state == .offered && o.state == .offered || (s.crane c).state == .working && o.state == .working)
      && ((s.piece o.piece).any fun p => p.loc.isHook) == (s.crane c).hooked

/-- Every record agrees with every other that names it (R5, R9, R14, R94, R98, R107): no field and no index disagree. -/
structure State.Agrees (s : State) : Prop where
  pieces : ∀ e ∈ s.pieces, s.PieceAgrees e.1 e.2
  orders : ∀ e ∈ s.orders, s.OrderAgrees e.1 e.2
  entries : ∀ b < Config.beds, ∀ pos < Config.positions, s.entryAgrees b pos = true
  beds : ∀ b < Config.beds, (s.bed b).entriesFit = true ∧ ((s.bed b).state = .releaseReady → (s.bed b).kind = .prestress)
  slots : ∀ k < Config.blocks, ∀ e ∈ (s.block k).slots, s.cellAgrees k e.1 e.2 = true
  bays : ∀ b < Config.bays, (∀ id ∈ (s.bay b).pieces, s.standsAt id (.bay b) = true)
    ∧ (s.bay b).count = (s.bay b).pieces.length + s.bayClaims b
  hooks : ∀ c < Config.cranes, ∀ id ∈ (s.crane c).hookCell, s.standsAt id (.hook c) = true
  cranes : ∀ c < Config.cranes, s.craneAgrees c = true
  /-- A stack's closed mark is set exactly while a pick holds it closed (R98, R126). -/
  marks : ∀ k < Config.blocks, ∀ r < (s.block k).rows, ∀ st < (s.block k).perRow,
    (s.block k).isClosed r st = s.stackHeldClosed k r st

/-- The in-use count of each mix is the number of live records that name it (R4). -/
structure State.MixCounts (s : State) : Prop where
  counts : ∀ m < Config.mixes, (s.mix m).inUse = (s.pieces.filter fun e => e.2.mix == m).length
  named : ∀ e ∈ s.pieces, e.2.mix < Config.mixes

/-! ### What one record says of another (R59, R97, R137) -/

/-- The footprint of the piece that stands in a slot or has it reserved (R97). -/
def State.cellFootprint (s : State) : Cell → Option Nat
  | .occupied id => (s.piece id).map (·.footprint)
  | .reserved h => s.orderFootprint h
  | .out => none

/-- A destination that names its slot (R101). -/
def Dest.isExplicit : Dest → Bool
  | .slot _ _ _ _ => true
  | _ => false

/-- A program in RUNNING or STOPPING has a live order, of its own origin, and no other program has one (R137, R141). -/
def State.programAgrees (s : State) (n : Nat) : Bool :=
  match (s.program n).order with
  | some h => ((s.program n).state == .running || (s.program n).state == .stopping)
      && (s.order h.slot).any fun o => o.tag == h.tag && o.state.live && o.origin == .program n
  | none => (s.program n).state != .running && (s.program n).state != .stopping

/-- A live order of a program is the one its program names (R137). -/
def State.originAgrees (s : State) (slot : Nat) (o : Order) : Bool :=
  match o.origin with
  | .program n => !o.state.live || n < Config.programs && (s.program n).order == some (o.handle slot)
  | _ => true

/-- What the records owe one another beside their places: strengths, footprints and programs (R59, R61, R97, R137). -/
structure State.Coheres (s : State) : Prop where
  /-- A piece's strength is its mix's curve at its maturity (R59, R61). -/
  strengths : ∀ e ∈ s.pieces, e.2.strength = (s.mix e.2.mix).strengthAt e.2.maturity
  /-- A DECLARED piece has no maturity yet, and no order holds a claim for it (R3, R15, R119, R122). -/
  declared : ∀ e ∈ s.pieces, e.2.stage = .declared → e.2.maturity = 0 ∧ e.2.residual = 0 ∧ e.2.gateStrip = false
    ∧ e.2.gateRelease = false ∧ e.2.gateDispatch = false
  unclaimed : ∀ e ∈ s.orders, e.2.reserved.isSome = true → ∀ p ∈ s.piece e.2.piece, p.stage ≠ .declared
  /-- No live order with an explicit slot is for a DECLARED piece (R119, step 7). -/
  explicit : ∀ e ∈ s.orders, e.2.state.live = true → e.2.dest.isExplicit = true →
    ∀ p ∈ s.piece e.2.piece, p.stage ≠ .declared
  /-- A stack's footprint is that of the piece at tier 0 or of the one that has it reserved, and none else (R97). -/
  footprints : ∀ k < Config.blocks, ∀ r < (s.block k).rows, ∀ st < (s.block k).perRow,
    (s.block k).footprint r st = ((s.block k).cell r st 0).bind s.cellFootprint
  /-- The pieces and claims of one stack share one footprint (R97). -/
  shared : ∀ k < Config.blocks, ∀ e ∈ (s.block k).slots, ∀ e' ∈ (s.block k).slots, e.1 / 8 = e'.1 / 8 →
    ∀ f ∈ s.cellFootprint e.2, ∀ f' ∈ s.cellFootprint e'.2, f = f'
  programs : ∀ n < Config.programs, s.programAgrees n = true
  origins : ∀ e ∈ s.orders, s.originAgrees e.1 e.2 = true
  /-- A program's item number lies within its count, and below it while its order lives (R138, R141). -/
  items : ∀ n < Config.programs, (s.program n).item ≤ (s.program n).count ∧ (s.program n).count ≤ 24
    ∧ ((s.program n).order.isSome = true → (s.program n).item < (s.program n).count)
  /-- An order waits for no retry once it is offered (R130). -/
  retries : ∀ e ∈ s.orders, e.2.state.inLift = true → e.2.retry = none

/-! ### The release lock (R169) -/

/-- What a RELEASED record keeps for as long as it lives (R169): everything but where it stands, whether it is
uncertain, its order, its stage, and the times of its cast and of its credit start. -/
structure Piece.Locked (p q : Piece) : Prop where
  fields : q = { p with
    loc := q.loc, uncertain := q.uncertain, order := q.order, stage := q.stage, castTime := q.castTime,
    creditStart := q.creditStart }
  stage : p.stage ≠ .declared → q.stage ≠ .declared

/-! ### What the end of a step may change (R118, R124, R130) -/

/-- What the end of a step leaves of an order: a QUEUED order without a retry wait may be offered, with its source fixed. -/
structure Order.Settled (o o' : Order) : Prop where
  fields : o' = { o with reserved := o'.reserved, state := o'.state, source := o'.source }
  unoffered : o.state.unoffered = true → o'.state.unoffered = true ∨ o'.state = .offered ∧ o.retry = none
  other : o.state.unoffered = false →
    o'.state = o.state ∧ o'.source = o.source ∧ (o'.reserved = none ∨ o'.reserved = o.reserved)
  steady : o.state.isWaiting = false →
    o'.state = o.state ∧ (o.reserved = none → o'.reserved = none) ∨ o.state = .queued ∧ o'.state = .offered

/-- What MS leaves of a piece: its live order may be written where there was none (R9, R128). -/
structure Piece.Bound (p q : Piece) : Prop where
  fields : q = { p with order := q.order }
  kept : p.order.isSome = true → q.order = p.order

/-- What MS leaves of a block's definition and of the form of its tables. -/
structure Block.Rearranged (b b' : Block) : Prop where
  fields : b' = { b with slots := b'.slots, footprints := b'.footprints, closed := b'.closed }
  slots : twf b.slots = true → twf b'.slots = true
  footprints : twf b.footprints = true → twf b'.footprints = true
  closed : srising b.closed = true → srising b'.closed = true
  /-- MS makes no cell but a reservation: an OCCUPIED or OUT slot was that before. -/
  made : ∀ key c, tget b'.slots key = some c → c.isReserved = false → tget b.slots key = some c

/-- What MS leaves of a bay: its pieces, and its room (R107). -/
structure Bay.Rearranged (b b' : Bay) : Prop where
  pieces : b'.pieces = b.pieces
  room : b.count ≤ Config.bayRoom → b'.count ≤ Config.bayRoom

/-- What both relations say of the records but the orders. -/
structure SameYard (s t : State) : Prop where
  piece : ∀ id p, s.piece id = some p → ∃ q, t.piece id = some q ∧ p.Bound q
  noPiece : ∀ id, s.piece id = none → t.piece id = none
  block : ∀ k, (s.block k).Rearranged (t.block k)
  bay : ∀ b, (s.bay b).Rearranged (t.bay b)
  piecesWf : twf s.pieces = true → twf t.pieces = true
  ordersWf : twf s.orders = true → twf t.orders = true
  counter : s.counter < Config.count32 → t.counter < Config.count32
  tags : (∀ i < Config.orderSlots, vget s.tags i < 256) → ∀ i < Config.orderSlots, vget t.tags i < 256

/-- What a crane can become by a selection (R130, R153): an IDLE crane OFFERED. -/
def Crane.Offers (r r' : Crane) : Prop :=
  r' = r ∨ r.state = .idle ∧
    r' = { r with state := .offered, order := r'.order, acceptTimer := 2, resent := false, hooked := false }

/-- A crane that was not OFFERED an order is OFFERED one. -/
def State.newlyOffered (s t : State) (c : Nat) : Bool :=
  (s.crane c).state != .offered && (t.crane c).state == .offered

/-- A crane's instruction slot holds the LIFT of its OFFERED order: slot, tag, the source fixed at the selection and the
destination reserved for it (R153). -/
def State.HoldsLift (t : State) (c : Nat) : Prop :=
  ∃ (h : Handle) (o : Order) (dest : Loc), (t.crane c).order = some h ∧ t.order h.slot = some o ∧ o.tag = h.tag
    ∧ o.state = .offered ∧ (∀ l ∈ o.reserved, l = dest)
    ∧ (vget t.link.slots c).lift = some { slot := h.slot, tag := h.tag, source := o.source, dest := dest }

/-- What a step leaves in the slots of crane `c`: a control message `placed`, an unsent LIFT `withdrawn`, and the LIFT of an
order `offered` to the crane (R151 to R153, R194). The message on the bus stays there, outdated where its slot is replaced
or withdrawn. While the link is not UP a placing leaves the slots empty. -/
structure State.Posts (s t : State) (c : Nat) (placed : Option CraneMode) (withdrawn offered : Bool) : Prop where
  control : s.link.state = .up → (vget t.link.slots c).control = placed.or (vget s.link.slots c).control
  lift : s.link.state = .up → offered = false →
    (vget t.link.slots c).lift = if withdrawn then none else (vget s.link.slots c).lift
  offer : s.link.state = .up → offered = true → t.HoldsLift c
  busControl : s.link.state = .up → ∀ m stale, s.link.onBus = some (m, stale) → m.ident = 0x0C0 + c →
    t.link.onBus = some (m, stale || placed.isSome)
  busLift : s.link.state = .up → ∀ m stale, s.link.onBus = some (m, stale) → m.ident = 0x100 + c →
    t.link.onBus = some (m, stale || withdrawn || offered)
  vacant : s.link.state ≠ .up → vget s.link.slots c = {} → vget t.link.slots c = {}
  empty : s.link.state ≠ .up → placed.isSome = true ∨ offered = true → vget t.link.slots c = {}

/-- What the end of a step can do (R118, R124, R130, R153, R195). -/
structure Settles (s t : State) : Prop where
  frame : t = { s with
    pieces := t.pieces, orders := t.orders, tags := t.tags, counter := t.counter, blocks := t.blocks, bays := t.bays,
    cranes := t.cranes, link := t.link }
  order : ∀ slot o, s.order slot = some o → ∃ o', t.order slot = some o' ∧ o.Settled o'
  fresh : ∀ slot o', s.order slot = none → t.order slot = some o' →
    o'.state.unoffered = true ∨ o'.state = .offered
  yard : SameYard s t
  crane : ∀ c, (s.crane c).Offers (t.crane c)
  linkState : t.link.state = s.link.state ∧ t.link.rate = s.link.rate ∧ t.link.wait = s.link.wait
  posts : ∀ c < Config.cranes, s.Posts t c none false (s.newlyOffered t c)

/-! ### An evaluation (R122, R123) -/

/-- A piece passes the stage and burial checks (R122, steps 1 and 2). -/
abbrev State.Clears (u : State) (p : Piece) : Prop := p.stage = .liftable ∧ u.buried p = false

/-- What the destination check claims for an order that holds no claim: a slot, a bay place, or nothing (R99, R101, R107,
R122 step 3). -/
def State.claimFor (u : State) (o : Order) (p : Piece) : Option Loc :=
  match o.dest with
  | .auto k ex => (u.search k p.footprint (excludedStacks p ex k)).map fun x => .stock k x.1 x.2.1 x.2.2
  | .slot k r st t => if u.explicitTest k r st t p.footprint then some (.stock k r st t) else none
  | .bay b => if (u.bay b).count < Config.bayRoom then some (.bay b) else none

/-- The wait reason of a destination check that fails (R122, step 3). -/
def Dest.refusal : Dest → WaitReason
  | .bay _ => .bayFull
  | _ => .noSlot

/-- The state that the base check gives an order with claim `l` (R104, R122 step 4). -/
def State.basedState (u : State) : Loc → OrderState
  | .stock k r st t => if t = 0 || (u.block k).occupied r st (t - 1) then .queued else .waiting .base
  | _ => .queued

/-- What an evaluation in state `u` makes of the order `o` of piece `p`: `o'`, in the state of the first check that fails, or
QUEUED (R122), with its claim kept, given up or made (R102, R107, R123). -/
structure State.Evaluated (u : State) (o : Order) (p : Piece) (o' : Order) : Prop where
  fields : o' = { o with state := o'.state, reserved := o'.reserved }
  stage : p.stage ≠ .liftable → o'.state = .waiting .notLiftable
  burial : p.stage = .liftable → u.buried p = true →
    o'.state = .waiting .buried ∨ o.kind ≠ .rehandle ∧ o'.state = .waiting .digBlocked
  kept : ¬u.Clears p → o.dest.isExplicit = true → o'.reserved = o.reserved
  given : ¬u.Clears p → o.dest.isExplicit = false → o.claimSound = true → o'.reserved = none
  claim : u.Clears p → o'.reserved = o.reserved.or (u.claimFor o p)
  passes : u.Clears p → ∀ l ∈ o'.reserved, o'.state = u.basedState l
  refused : u.Clears p → o'.reserved = none → o'.state = .waiting o.dest.refusal

/-- The crane of a rehandle (R121): its parent's where that reaches the block, and else the lowest that does. -/
def State.rehandleCrane (s : State) (parent block : Nat) : Option Nat :=
  if (s.crane parent).reach.hasBlock block then some parent else s.lowestCrane fun r => r.hasBlock block

/-- What the dig pass of a pick `o` with handle `h` leaves, from state `s` before the pick's evaluation to state `u` after it,
the pick's piece standing in slot `x` and the pick left WAITING in state `st` (R127, R128). -/
structure State.Dug (s u : State) (h : Handle) (o : Order) (x : SlotRef) (st : OrderState) : Prop where
  /-- A piece above that had no live order and has one now has its rehandle, which waits while it is buried itself. -/
  rehandled : ∀ t id q q' g, x.tier < t → t < (s.block x.block).tiers →
    (s.block x.block).cell x.row x.stack t = some (.occupied id) → id ≠ o.piece →
    s.piece id = some q → q.order = none → u.piece id = some q' → q'.order = some g →
    ∃ r, u.order g.slot = some r ∧ r.tag = g.tag ∧ r.kind = .rehandle ∧ r.origin = .rehandle h ∧ r.piece = id
      ∧ r.cls = 2 ∧ r.key = o.key ∧ r.attempts = 0 ∧ s.rehandleCrane o.crane x.block = some r.crane
      ∧ r.dest = .auto x.block (some (x.row, x.stack))
      ∧ (q.stage = .liftable → q.loc = .stock x.block x.row x.stack t →
        if s.buried q = true then r.state = .waiting .buried ∧ r.reserved = none
        else r.reserved.isSome = true ∧ (r.state = .queued ∨ r.state = .waiting .base))
  /-- The pass goes through: every piece above has a live order. -/
  through : st = .waiting .buried → ∀ t id q', x.tier < t → t < (s.block x.block).tiers →
    (s.block x.block).cell x.row x.stack t = some (.occupied id) → u.piece id = some q' → q'.order.isSome = true
  /-- It ends at the highest tier whose piece can have no rehandle. -/
  blocked : st = .waiting .digBlocked → ∃ t id q', x.tier < t ∧ t < (s.block x.block).tiers
    ∧ (s.block x.block).cell x.row x.stack t = some (.occupied id) ∧ u.piece id = some q' ∧ q'.order = none
    ∧ (∀ t' id' p', t < t' → t' < (s.block x.block).tiers →
      (s.block x.block).cell x.row x.stack t' = some (.occupied id') → u.piece id' = some p' → p'.order.isSome = true)
    ∧ (u.freeRecord = none ∨ s.rehandleCrane o.crane x.block = none
      ∨ u.search x.block q'.footprint [(x.row, x.stack)] = none)

/-- A change of block `k`, taken in state `u` by a step that ends in state `t`, brings its NO_SLOT orders to a new evaluation
(R124). The one of lowest sequence is evaluated in `u`, and where no other order waits and its piece is not buried it is
left as it was evaluated, but for an offer. -/
def State.Reevaluates (u t : State) (k : Nat) : Prop :=
  ∀ x < Config.orderSlots, ∀ o p, u.order x = some o → o.state = .waiting .noSlot → o.dest.block? = some k →
    u.piece o.piece = some p →
    (∀ y o', y ≠ x → u.order y = some o' → u.blockConcerns k o' = true → o.sequence < o'.sequence) →
    ∃ o1 o', u.Evaluated o p o1 ∧ t.order x = some o' ∧ o'.state ≠ .parked
      ∧ (o1.state = .queued → o'.state = .queued ∨ o'.state = .offered)
      ∧ (u.buried p = false → (∀ y o2, y ≠ x → u.order y = some o2 → o2.state.isWaiting = false) →
        o'.reserved = o1.reserved ∧ (o'.state = o1.state ∨ o1.state = .queued ∧ o'.state = .offered))

/-! ### A selection (R130) -/

/-- An order that is a candidate for crane `c` before a step, is no crane's current order, and whose piece stands after the
step where it stood (R130). -/
abbrev State.Rival (s t : State) (c slot : Nat) (o : Order) : Prop :=
  slot < Config.orderSlots ∧ s.order slot = some o ∧ s.isCandidate c o = true
    ∧ (∀ c' < Config.cranes, s.currentSlot c' ≠ some slot)
    ∧ (t.piece o.piece).map (·.loc) = (s.piece o.piece).map (·.loc)

/-- A selection for crane `c` in a step from `s` to `t` (R130): with a candidate the crane is OFFERED an order, and none that
was a candidate before the step ranks ahead of that order, by class, in class 2 urgency key, and sequence. -/
structure State.Chooses (s t : State) (c : Nat) : Prop where
  offered : (∃ slot o, s.Rival t c slot o) → (t.crane c).state = .offered
  least : (t.crane c).state = .offered → ∃ h o, (t.crane c).order = some h ∧ t.order h.slot = some o ∧ o.tag = h.tag
    ∧ o.state = .offered ∧ o.crane = c ∧ ∀ slot o', s.Rival t c slot o' → o.rank ≤ o'.rank

/-! ### A change of a crane's effective mode (R152, R177) -/

/-- What a step that may change the effective mode of crane `c` leaves of it, of its order and of its slots: `s` before the
step, `old` the mode the crane held, `t` after it. The rows are those of the table of R152. -/
structure State.ModeTaken (s t : State) (c : Nat) (old : CraneMode) : Prop where
  kept : t.effMode c = old → (s.crane c).Offers (t.crane c)
  offline : (s.crane c).state = .offline → t.crane c = s.crane c
  rests : t.effMode c ≠ old → (s.crane c).state = .idle ∨ (s.crane c).state = .held ∨ (s.crane c).state = .stopped →
    (t.crane c).state = (t.effMode c).settled ∨ t.effMode c = .run ∧ (t.crane c).state = .offered
  /-- Where the mode becomes RUN, a selection follows (R130). -/
  selects : t.effMode c ≠ old → t.effMode c = .run →
    (s.crane c).state = .idle ∨ (s.crane c).state = .held ∨ (s.crane c).state = .stopped → s.Chooses t c
  stays : t.effMode c ≠ old → (s.crane c).state.busy = true → t.effMode c ≠ .stop → t.crane c = s.crane c
  stops : t.effMode c ≠ old → (s.crane c).state.busy = true → t.effMode c = .stop → t.crane c = { s.crane c with
    state := .stopped, order := none, acceptTimer := 0, resent := false, liftTimer := 0, hooked := false }
  /-- An OFFERED order returns to QUEUED with its attempts; the invariant of offered orders says it has no retry wait. -/
  returns : t.effMode c ≠ old → t.effMode c = .stop → (s.crane c).state = .offered → ∀ h o,
    (s.crane c).order = some h → s.order h.slot = some o → o.crane = c → s.SoleLift c h.slot → s.Requeues h.slot →
    ∃ o', t.order h.slot = some o' ∧ o'.state = .queued ∧ o'.attempts = o.attempts ∧ o'.retry = o.retry
  /-- A WORKING lift becomes UNRESOLVED, hooked or not, and its piece uncertain where it is (R8, R160). The premise leaves
  out states that no run reaches, where another order of the same piece ends in the step (R9). -/
  unresolved : s.Agrees ∨ s.NoStopping → t.effMode c ≠ old → t.effMode c = .stop → (s.crane c).state = .working → ∀ h o p,
    (s.crane c).order = some h → s.order h.slot = some o → s.SoleLift c h.slot → s.piece o.piece = some p →
    ∃ o' q, t.order h.slot = some o' ∧ o'.state = .unresolved ∧ o'.source = o.source ∧ o'.attempts = o.attempts
      ∧ t.piece o.piece = some q ∧ q.uncertain = true ∧ q.loc = p.loc
  posts : s.Posts t c (if t.effMode c = old then none else some (t.effMode c))
    (decide (t.effMode c ≠ old) && decide (t.effMode c = .stop)) (s.newlyOffered t c)

/-! ### A plant minute (R82 to R86) -/

/-- A zone's setpoint and carry stand as they were. -/
abbrev Heater.Stands (h h' : Heater) : Prop := h'.setpoint = h.setpoint ∧ h'.carry = h.carry

/-- One minute of a zone's setpoint in RAMP (R83): a rise of the step sum div 60, not past the target, the rest carried. -/
abbrev Heater.Rises (rate : Nat) (target : Int) (h h' : Heater) : Prop :=
  (∀ v, h.setpoint = some v → v < target →
    h'.setpoint = some (min (v + ((h.carry + rate) / 60 : Nat)) target)
    ∧ h'.carry = if target ≤ v + ((h.carry + rate) / 60 : Nat) then 0 else (h.carry + rate) % 60)
  ∧ ((∀ v, h.setpoint = some v → target ≤ v) → h.Stands h')

/-- One minute of a zone's setpoint in COOL (R86): a fall in the same way, not below the end temperature. -/
abbrev Heater.Falls (rate : Nat) (finish : Int) (h h' : Heater) : Prop :=
  (∀ v, h.setpoint = some v → finish < v →
    h'.setpoint = some (max (v - ((h.carry + rate) / 60 : Nat)) finish)
    ∧ h'.carry = if v - ((h.carry + rate) / 60 : Nat) ≤ finish then 0 else (h.carry + rate) % 60)
  ∧ ((∀ v, h.setpoint = some v → v ≤ finish) → h.Stands h')

/-- The lesser of the profile's peak and the bed's setpoint cap (R83). -/
def Bed.target (r : Bed) : Int := r.cap.elim r.profile.peak (min r.profile.peak)

/-- A bed in a phase with a phase minute count, the rest of it as it was. -/
abbrev Bed.Goes (r r' : Bed) (ph : Phase) (count : Nat) : Prop := r' = { r with phase := ph, phaseMinutes := count }

/-- The test of R86: a bed goes to DONE where each cycle zone's setpoint has come down to the end temperature, and is in
COOL otherwise. -/
abbrev State.CoolTested (s t : State) (b count : Nat) : Prop :=
  ((∀ j < (s.bed b).zoneCount, ∃ v, (t.heater (b * 4 + j)).setpoint = some v ∧ v ≤ (s.bed b).profile.finish) →
    (s.bed b).Goes (t.bed b) .done count)
  ∧ ((∃ j < (s.bed b).zoneCount, ∀ v, (t.heater (b * 4 + j)).setpoint = some v → (s.bed b).profile.finish < v) →
    (s.bed b).Goes (t.bed b) .cool count)

/-- What a plant minute leaves of bed `b`, its phase, its phase minute count, and the setpoints and carries of its zones, by
the phase it finds (R82 to R86). That the count rises in RAMP is the model's reading (log 17). -/
structure State.MinuteTaken (s t : State) (b : Nat) : Prop where
  /-- A zone outside the cycle, and each zone of a bed in OFF or DONE, stands. -/
  outside : ∀ j < 4, (s.bed b).zoneCount ≤ j ∨ (s.bed b).phase = .off ∨ (s.bed b).phase = .done →
    (s.heater (b * 4 + j)).Stands (t.heater (b * 4 + j))
  off : (s.bed b).phase = .off → t.bed b = s.bed b
  done : (s.bed b).phase = .done → (s.bed b).Goes (t.bed b) .done ((s.bed b).phaseMinutes + 1)
  preset : (s.bed b).phase = .preset → (s.bed b).phaseMinutes ≠ (s.bed b).profile.preset →
    (s.bed b).Goes (t.bed b) .preset ((s.bed b).phaseMinutes + 1)
    ∧ ∀ j < (s.bed b).zoneCount, (s.heater (b * 4 + j)).Stands (t.heater (b * 4 + j))
  /-- PRESET ends: every setpoint begins at the zone's last good temperature or the target. -/
  ramps : (s.bed b).phase = .preset → (s.bed b).phaseMinutes = (s.bed b).profile.preset →
    (∀ j < (s.bed b).zoneCount, (t.heater (b * 4 + j)).carry = 0
      ∧ (t.heater (b * 4 + j)).setpoint = some (min (s.zone (b * 4 + j)).lastGood (s.bed b).target))
    ∧ (s.bed b).Goes (t.bed b)
      (if ∀ j < (s.bed b).zoneCount, (s.bed b).target ≤ (s.zone (b * 4 + j)).lastGood then .hold else .ramp) 0
  ramp : (s.bed b).phase = .ramp →
    (∀ j < (s.bed b).zoneCount,
      (s.heater (b * 4 + j)).Rises (s.bed b).profile.ramp (s.bed b).target (t.heater (b * 4 + j)))
    ∧ ((∀ j < (s.bed b).zoneCount, (t.heater (b * 4 + j)).setpoint = some (s.bed b).target) →
      (s.bed b).Goes (t.bed b) .hold 0)
    ∧ ((∃ j < (s.bed b).zoneCount, (t.heater (b * 4 + j)).setpoint ≠ some (s.bed b).target) →
      (s.bed b).Goes (t.bed b) .ramp ((s.bed b).phaseMinutes + 1))
  hold : (s.bed b).phase = .hold →
    (s.bed b).profile.hold = 0 ∨ (s.bed b).phaseMinutes + 1 < (s.bed b).profile.hold →
    (s.bed b).Goes (t.bed b) .hold ((s.bed b).phaseMinutes + 1)
    ∧ ∀ j < (s.bed b).zoneCount, (s.heater (b * 4 + j)).Stands (t.heater (b * 4 + j))
  /-- HOLD reaches its limit: the zones keep their setpoints into COOL, or DONE where all have cooled. -/
  cools : (s.bed b).phase = .hold → (s.bed b).profile.hold ≠ 0 →
    (s.bed b).profile.hold ≤ (s.bed b).phaseMinutes + 1 →
    (∀ j < (s.bed b).zoneCount, ∀ v, (s.heater (b * 4 + j)).setpoint = some v →
      (t.heater (b * 4 + j)).setpoint = some v ∧ (t.heater (b * 4 + j)).carry = 0)
    ∧ s.CoolTested t b 0
  cool : (s.bed b).phase = .cool →
    (∀ j < (s.bed b).zoneCount,
      (s.heater (b * 4 + j)).Falls (s.bed b).profile.cool (s.bed b).profile.finish (t.heater (b * 4 + j)))
    ∧ s.CoolTested t b ((s.bed b).phaseMinutes + 1)

/-! ### What a generation leaves (R141) -/

/-- What a generation of program `n` leaves, begun in state `s` with the record `p` written and ended in state `t` (R140,
R141). Its new record is `g`; `p` with the item and skip counts of `g` is the program at the item it stopped at. -/
structure State.Generated (s t : State) (n : Nat) (p g : Program) : Prop where
  new : t.program n = g
  others : ∀ m, m ≠ n → t.program m = s.program m
  fields : g = { p with
    state := g.state, doneFlag := p.doneFlag || g.state == .done, item := g.item, skipped := g.skipped, order := g.order }
  /-- The items passed over had no piece to place, and each is counted as skipped. -/
  passed : p.item ≤ g.item ∧ g.skipped = p.skipped + (g.item - p.item)
    ∧ ∀ i, p.item ≤ i → i < g.item → s.itemPiece { p with item := i } = none
  ends : g.state = .running ∨ g.state = .done ∨ g.state = .fault .slot ∨ g.state = .fault .order
  /-- RUNNING: the order that its item's piece got, to the destination of R140. -/
  running : g.state = .running → t.attn = s.attn ∧ g.item < p.count ∧ ∃ h o id r, g.order = some h
    ∧ s.freeRecord = some h.slot ∧ t.order h.slot = some o ∧ o.tag = h.tag ∧ o.sequence = s.counter
    ∧ s.itemPiece { p with item := g.item } = some (id, r) ∧ s.destPasses p.dest r.footprint = true
    ∧ o.piece = id ∧ o.kind = .move ∧ o.origin = .program n ∧ o.cls = p.cls ∧ o.key = p.key ∧ o.crane = p.crane
    ∧ o.dest = p.dest
  done : g.state = .done → g.item = p.count
  /-- FAULT(SLOT): a piece to place, and a destination that does not pass the slot step. -/
  slot : g.state = .fault .slot → g.item < p.count ∧ ∃ id r, s.itemPiece { p with item := g.item } = some (id, r)
    ∧ s.destPasses p.dest r.footprint = false
  /-- FAULT(ORDER): a piece to place and a destination that passes, and no free order record. -/
  order : g.state = .fault .order → g.item < p.count ∧ ∃ id r, s.itemPiece { p with item := g.item } = some (id, r)
    ∧ s.destPasses p.dest r.footprint = true ∧ s.freeRecord = none
  /-- Any other end than RUNNING enters the program attention set and changes nothing else in the order table. -/
  settled : g.state ≠ .running → g.order = p.order ∧ t.orders = s.orders
    ∧ t.attn = { s.attn with programs := sinsert n s.attn.programs }

end Sys2Proof.Machine
end

