-- ==== Sys2Proof/Certificates/Slice0/Obligations.lean ====
section
/-! DEFINITION. The statements for the provers: one `def Obligations.<Name> : Prop` each, listed in OBLIGATIONS.json. -/

open Sys2Proof Sys2Proof.Machine

/-! ### The machine as a whole -/

/-- A step takes the command at the front of the queue and runs it on the state with the queue's rest. -/
def Obligations.StepRunsFront : Prop :=
  ∀ (s : State) (c : Instr) (rest : List Instr), s.pending = c :: rest → step s = exec c { s with pending := rest }

/-- Every command and event of the table, on every state, ends in a next state, and leaves the queue alone. -/
def Obligations.EveryCommandCompletes : Prop :=
  ∀ (c : Instr) (s : State), ∃ t : State, exec c s = .next t ∧ t.pending = s.pending

/-- The state after a power-on reset meets the invariants stated here: the bounds, the heat law, the canonical forms, the
agreement of the records, the in-use counts of the mixes, and what the records owe one another. -/
def Obligations.ResetMeetsInvariants : Prop :=
  State.reset.Bounds ∧ State.reset.HeatLaw ∧ State.reset.Canonical ∧ State.reset.Agrees ∧ State.reset.MixCounts
    ∧ State.reset.Coheres

/-- The figures listed in `State.Bounds` keep to the ranges their rules give them, over every step: plant time, minute and
creation counter, tags, heater, zone, bed, profile, mix, crane and block figures, bay counts, the figures and strength of
each piece, the number of live records, and a program's item number (R1, R4, R11, R28, R31, R32, R46, R49, R55, R57, R58,
R61, R79, R81, R83, R85, R87 to R89, R92, R107, R115, R116, R141, R149, R180). -/
def Obligations.BoundsKept : Prop :=
  ∀ s t : State, s.Bounds → s.Canonical → step s = .next t → t.Bounds

/-- Heat is on only where R87 allows it: after every step, an output that is on belongs to a zone with a trusted sensor,
on a bed in RAMP, HOLD or COOL, in a plant mode other than STANDBY and with the yard stop released. No setpoint stands
above its bed's cap (R85), and a bed in FREE or SET has phase OFF. -/
def Obligations.HeatLawKept : Prop :=
  ∀ s t : State, s.Bounds → s.HeatLaw → step s = .next t → t.HeatLaw

/-- Every step keeps the in-use count of each mix at the number of live records that name it (R4). -/
def Obligations.MixCountsKept : Prop :=
  ∀ s t : State, s.Canonical → s.MixCounts → step s = .next t → t.MixCounts

/-- Every step keeps the records in agreement: each piece is listed where its location says and nowhere else (R5, R14), a
piece and its live order name each other (R9, R10), every claim is a reservation or a bay place held for its order and
every bay's count is its pieces and its claims (R94, R107), occupied slots have no gap below (R96), closed marks stand
where a pick holds them (R98), and cranes and their current orders name each other (R153). With the in-use counts right it
also keeps each strength at its mix's curve at the piece's maturity (R59, R61), one footprint to a stack, that of tier 0
(R97), and a program and the order it has created naming each other (R137). -/
def Obligations.AgreementKept : Prop :=
  ∀ s t : State, s.Canonical → s.Bounds → s.Agrees → step s = .next t →
    t.Agrees ∧ (s.MixCounts → s.Coheres → t.Coheres)

/-- Every step keeps the canonical form of every table and set. -/
def Obligations.CanonicalFormKept : Prop :=
  ∀ s t : State, s.Canonical → step s = .next t → t.Canonical

/-- The release lock (R169): over any step, a RELEASED record that still lives keeps its maturity, residual, strength,
gates, overheat count, quality, release time, mix, mark, footprint and home. The premise on the stage leaves out states
that no run reaches: a RELEASE_PIECE refuses a DECLARED piece (R168). -/
def Obligations.ReleaseLockKept : Prop :=
  ∀ (s t : State) (id : Nat) (p q : Piece), step s = .next t → s.piece id = some p → p.quality = .released →
    p.stage ≠ .declared → t.piece id = some q → p.Locked q

/-- While a record lives no step lowers its maturity, unlatches a gate, lowers its overheat count or takes back its waiver
(R55, R59, R62, R167). -/
def Obligations.MaturityNeverFalls : Prop :=
  ∀ (s t : State) (id : Nat) (p q : Piece), step s = .next t → s.piece id = some p → p.Bounded → t.piece id = some q →
    p.maturity ≤ q.maturity ∧ p.overheat ≤ q.overheat ∧ (p.gateStrip = true → q.gateStrip = true)
    ∧ (p.gateRelease = true → q.gateRelease = true) ∧ (p.gateDispatch = true → q.gateDispatch = true)
    ∧ (p.waived = true → q.waived = true)

/-- POWER_ON_RESET is the power-on state, but for the input levels, the contactor chain and the model's own fields, which
stay by the model's choice (logs 10 and 26); its records are written out here (R21, R42, R45, R91, R114, R136, R147, R164,
R183, R188, R192, R197). WARM_RESET keeps every piece and mix, puts the outputs out and every crane OFFLINE, restarts a
link that ran (R22, R91, R164, R188, R192, R197), and carries on the frame being executed with its response to be
discarded, in the model's own bookkeeping (log 29). On agreeing records it also keeps beds, programs, stock, bays and
attention, arms the zones with work and idles the rest (R43, R91, R114, R147), and of the orders changes only the OFFERED,
which return to QUEUED, and the WORKING, which are UNRESOLVED with their pieces uncertain (R8, R136). -/
def Obligations.ResetsState : Prop :=
  ∀ s : State,
    (∃ t : State, exec .powerOnReset s = .next t
      ∧ t = { State.reset with
          yardStop := s.yardStop
          port := { State.reset.port with selLow := s.port.selLow }
          line := { State.reset.line with chain := s.line.chain }
          freeCount := s.freeCount
          pending := s.pending }
      ∧ t.pieces = [] ∧ t.orders = [] ∧ t.time = 0 ∧ t.minute = 0 ∧ t.counter = 0 ∧ t.mode = .standby
      ∧ (∀ i, vget t.tags i = 0)
      ∧ (∀ m < 16, (t.mix m).loaded = false ∧ (t.mix m).inUse = 0)
      ∧ (∀ b < 12, (t.bed b).state = .free ∧ (t.bed b).kind = .form ∧ (t.bed b).positions = 1 ∧ (t.bed b).zoneCount = 1
        ∧ (t.bed b).cap = none ∧ (t.bed b).notYet = 0 ∧ (t.bed b).phase = .off ∧ (t.bed b).phaseMinutes = 0
        ∧ (t.bed b).profile = { preset := 0, ramp := 350, peak := -400, hold := 0, cool := 350, finish := -400 }
        ∧ ∀ p < 24, t.entry b p = .empty ∧ vget (t.bed b).zoneMap p = 0)
      ∧ (∀ z < 52, t.zone z = { state := .idle, lastGood := 0, lastArrival := 0, faultRun := 0, gap := 300 })
      ∧ (∀ z < 48, t.heater z = { gain := 8, dutyCap := 1023, mode := .spread, setpoint := none, carry := 0,
                                  accumulator := 0, window := 0, onLeft := 0, duty := 0, output := false })
      ∧ (∀ k < 4, (t.block k).defined = false ∧ (t.block k).slots = []) ∧ (∀ b < 4, t.bay b = { count := 0, pieces := [] })
      ∧ (∀ n < 8, t.program n = { state := .idle, doneFlag := false, bed := 0, first := 0, backwards := false, count := 1,
                                  crane := 0, cls := 1, key := 0, block := 0, pattern := none, item := 0, placed := 0,
                                  skipped := 0, order := none })
      ∧ (∀ c < 4, t.crane c = { state := .offline, reach := ⟨0, 0, 0⟩, limit := 900, modes := ⟨.run, .hold, .stop⟩,
                                order := none, acceptTimer := 0, resent := false, liftTimer := 0, hooked := false,
                                lastReason := 0, hookCell := [] })
      ∧ t.attn = {} ∧ t.link.state = .off ∧ t.link.rate = .r250 ∧ t.port.state = .idle ∧ t.port.overrun = false
      ∧ t.line.shifting = some (Vector.replicate 48 false))
    ∧ ∃ t : State, exec .warmReset s = .next t ∧ t.mode = .standby ∧ t.time = s.time ∧ t.minute = s.minute
      ∧ t.yardStop = s.yardStop ∧ t.mixes = s.mixes ∧ (∀ id, s.piece id = none → t.piece id = none)
      ∧ (∀ id p, s.piece id = some p → ∃ q, t.piece id = some q ∧ q = { p with uncertain := q.uncertain, order := q.order })
      ∧ (∀ z < 48, (t.heater z).output = false ∧ (t.heater z).duty = 0 ∧ (t.heater z).accumulator = 0
        ∧ (t.heater z).window = 0 ∧ (t.heater z).onLeft = 0)
      ∧ t.line = { shifting := some (Vector.replicate 48 false), chain := s.line.chain, ticked := false }
      ∧ (∀ c < 4, t.crane c = if (s.crane c).state = .offline then s.crane c else { s.crane c with
          state := .offline, order := none, acceptTimer := 0, resent := false, liftTimer := 0, hooked := false })
      ∧ t.link = (if s.link.state = .off then s.link else
          { state := .down, rate := s.link.rate, wait := .starting, slots := Vector.replicate 4 {}, onBus := none })
      ∧ t.port = { selLow := s.port.selLow
                   carried := if s.port.state = .executing then some s.port.frame else s.port.carried }
      ∧ (s.Agrees → s.Bounds → s.NoStopping →
        (∀ slot, t.order slot = (s.order slot).map fun o =>
          if o.state = .offered then { o with state := .queued }
          else if o.state = .working then { o with state := .unresolved } else o)
        ∧ (∀ id p, s.piece id = some p → t.piece id = some { p with
            uncertain := p.uncertain || p.order.any (fun h => (s.order h.slot).any fun o => o.state == .working) })
        ∧ t.beds = s.beds ∧ t.programs = s.programs ∧ t.bays = s.bays ∧ t.tags = s.tags ∧ t.counter = s.counter
        ∧ (∀ k, t.block k = { s.block k with closed := (t.block k).closed })
        ∧ (∀ k r st, (s.block k).isClosed r st = true → (t.block k).isClosed r st = true)
        ∧ (∀ slot o x, s.order slot = some o → o.state = .offered → s.pickSlot o = some x →
            (t.block x.block).isClosed x.row x.stack = true)
        ∧ (∀ z < 52, t.zone z = { s.zone z with
            state := if s.hasWork z = true then .arming else .idle, faultRun := 0 })
        ∧ (∀ z < 48, t.heater z = { s.heater z with
            accumulator := 0, window := 0, onLeft := 0, duty := 0, output := false })
        ∧ t.attn = { s.attn with cranes := t.attn.cranes }
        ∧ ∀ c, c ∈ t.attn.cranes ↔ c ∈ s.attn.cranes ∨ c < 4 ∧ (s.crane c).state ≠ .offline)

/-! ### The supervisory port -/

/-- FRAME_WORD, a word that does not complete its frame: in IDLE it is taken as a header, in RECEIVING it is stored; SDO
shifts out 0 (R184). With SEL high the word is ignored. -/
def Obligations.FrameWordStored : Prop :=
  ∀ (s : State) (w : Word),
    (s.port.selLow = false → exec (.frameWord w) s = .next s)
    ∧ (s.port.selLow = true → s.port.state = .idle → 1 < headerLength w →
      exec (.frameWord w) s = .next { s with port := { s.port with state := .receiving, frame := [w], sdo := 0 } })
    ∧ (s.port.selLow = true → s.port.state = .receiving →
      ∀ h rest, s.port.frame = h :: rest → rest.length + 2 < headerLength h →
      exec (.frameWord w) s =
        .next { s with port := { s.port with state := .receiving, frame := h :: rest ++ [w], sdo := 0 } })

/-- FRAME_WORD, the word that completes a frame: validation answers an unknown kind and a wrong length at once, and hands
the rest on in EXECUTING, where the block hears the command that the frame spells (R184, R185). -/
def Obligations.FrameValidated : Prop :=
  ∀ (s : State) (w h : Word) (rest frame : List Word), s.port.selLow = true → frame = h :: rest →
    (s.port.state = .idle ∧ frame = [w] ∨ s.port.state = .receiving ∧ frame = s.port.frame ++ [w]) →
    headerLength h ≤ frame.length →
    (frameCheck h = .handOn →
      exec (.frameWord w) s = .next { s with port := { s.port with state := .executing, frame := frame, sdo := 0 } }
      ∧ ∀ c, decodeFrame frame = some c →
        ({ s with port := { s.port with state := .executing, frame := frame, sdo := 0 } } : State).Hears c)
    ∧ (frameCheck h = .unknownKind →
      exec (.frameWord w) s = .next (({ s with port := { s.port with sdo := 0 } } : State).respond (headerKind h) .unknown))
    ∧ (frameCheck h = .badLength →
      exec (.frameWord w) s =
        .next (({ s with port := { s.port with sdo := 0 } } : State).respond (headerKind h) (.failed .badLength)))

/-- The end of an execution with SEL low (R187): the first word carries result, kind and reason, the second the overrun
flag as it stood, ATTN and the length; the data words follow with the bits their layout names; the overrun flag clears. -/
def Obligations.ResponseBuilt : Prop :=
  ∀ (s : State) (kind : Nat) (r : Reply) (result reason : Nat) (data : List DataWord), s.port.selLow = true → kind < 64 →
    data.length < 1022 →
    (r = .done data ∧ result = 1 ∧ reason = 0 ∨ (∃ e, r = .failed e ∧ result = 2 ∧ reason = e.code ∧ data = [])
      ∨ r = .unknown ∧ result = 3 ∧ reason = 1 ∧ data = []) →
    ∃ w0 w1 ws, (s.endExecution kind r).port =
        { s.port with state := .responding, frame := [], response := w0 :: w1 :: ws, overrun := false }
      ∧ w0.toNat = result * 16384 + kind * 256 + reason
      ∧ w1.getLsbD 15 = s.port.overrun ∧ w1.getLsbD 14 = s.attnLine ∧ w1.toNat % 1024 = data.length + 2
      ∧ ws.length = data.length
      ∧ ∀ i (hi : i < ws.length) (hd : i < data.length), ws[i] &&& data[i].named = data[i].value &&& data[i].named

/-- With SEL high when an execution ends the response is discarded and the port is IDLE; the overrun flag stays (R186). -/
def Obligations.ResponseDiscarded : Prop :=
  ∀ (s : State) (kind : Nat) (r : Reply), s.port.selLow = false →
    s.endExecution kind r = { s with port := { s.port with state := .idle, frame := [] } }

/-- RESPONSE_WORD, and FRAME_WORD in RESPONDING: the next response word is shifted out, and after the last the port is
IDLE. OVERRUN, and FRAME_WORD in EXECUTING: the word is discarded and the overrun flag set, SDO shifting out 0 (R184,
R186, R187). -/
def Obligations.WordsWhileBusy : Prop :=
  ∀ (s : State) (w : Word), s.port.selLow = true →
    (∀ x rest, s.port.state = .responding → s.port.response = x :: rest →
      exec .responseWord s =
          .next { s with port := { s.port with
            sdo := x, response := rest, state := if rest = [] then .idle else .responding } }
      ∧ exec (.frameWord w) s = exec .responseWord s)
    ∧ (s.port.state = .executing →
      exec .overrun s = .next { s with port := { s.port with overrun := true, sdo := 0 } }
      ∧ exec (.frameWord w) s = exec .overrun s)

/-- SEL_RISE drops a frame being received and a response being sent, and leaves the rest; SEL_FALL begins a frame (R184,
R186, R187). -/
def Obligations.SelEdges : Prop :=
  ∀ s : State,
    exec .selFall s = .next { s with port := { s.port with selLow := true } }
    ∧ (s.port.state = .receiving →
      exec .selRise s = .next { s with port := { s.port with selLow := false, state := .idle, frame := [] } })
    ∧ (s.port.state = .responding →
      exec .selRise s = .next { s with port := { s.port with selLow := false, state := .idle, response := [] } })
    ∧ (s.port.state = .idle ∨ s.port.state = .executing →
      exec .selRise s = .next { s with port := { s.port with selLow := false } })

/-- UNKNOWN_KIND and BAD_LENGTH: a frame answered by its header alone, with result UNKNOWN or with FAILED and BAD_LENGTH,
the header's kind echoed (R184, R185). -/
def Obligations.HeaderAnswered : Prop :=
  ∀ (s : State) (h : Word), s.port.state ≠ .executing →
    (frameCheck h = .unknownKind → exec (.unknownKind h) s = .next (s.endExecution (headerKind h) .unknown))
    ∧ (frameCheck h = .badLength → exec (.badLength h) s = .next (s.endExecution (headerKind h) (.failed .badLength)))

/-! ### Commands of the part as a whole -/

/-- IDENT (R191): part code, revision, plant mode, yard stop, plant time, link state and rate; nothing changes, and no
state of the part refuses it. -/
def Obligations.IdentAnswers : Prop :=
  ∀ s : State, s.Hears .ident →
    exec .ident s = .next (s.endExecution 0x01 (.done
      [fullWord 0x5A24, fullWord 0x0100, packed [(0, 2, s.mode.code), (8, 1, bit s.yardStop)],
        fullWord (s.time / 65536), fullWord s.time, packed [(0, 2, s.link.state.code), (4, 2, s.link.rate.code)]]))

/-- TAKE_ATTENTION (R190): the sets are answered as they stand; all is removed but the piece ids beyond the 400 lowest. -/
def Obligations.TakeAttentionRemoves : Prop :=
  ∀ s : State, s.Hears .takeAttention →
    exec .takeAttention s =
      .next (({ s with attn := { pieces := s.attn.pieces.drop 400 } } : State).endExecution 0x04 (.done s.attn.words))

/-- SET_TIME (R77, R181): plant time is the value given, every zone's last arrival with it; zones with work go to ARMING;
the minute count stays; no order that was QUEUED has a retry wait left. -/
def Obligations.SetTimeEffects : Prop :=
  ∀ (s : State) (v : BitVec 32), s.Hears (.setTime v) →
    ∃ t : State, exec (.setTime v) s = .next (t.endExecution 0x02 (.done t.plantWords))
      ∧ t.time = v.toNat ∧ t.minute = s.minute ∧ t.mode = s.mode ∧ t.yardStop = s.yardStop
      ∧ t.beds = s.beds ∧ t.mixes = s.mixes ∧ t.programs = s.programs ∧ t.attn = s.attn
      ∧ (∀ z < 52, t.zone z = if s.hasWork z then
          { s.zone z with lastArrival := v.toNat, state := .arming, faultRun := 0 }
          else { s.zone z with lastArrival := v.toNat })
      ∧ (∀ z < 48, s.hasWork z = true → (s.zone z).state.trusted = true → (t.heater z).output = false)
      ∧ ∀ slot < 128, ∀ o, s.order slot = some o → o.state = .queued →
          ∃ o', t.order slot = some o' ∧ o'.retry = none

/-- SET_MODE (R176, R177): the mode is set unless the yard stop holds; in STANDBY every output goes off at once; each
crane takes its new effective mode by the table of R152, with a control message where the mode changes and its LIFT
withdrawn where that is STOP (R194), a crane that comes to RUN selects the first of its candidates (R130), and no other
crane changes but by a selection, which places the LIFT (R153). A code
that names no mode is refused with RANGE, and a mode under the yard stop with MODE; where both hold the reason is RANGE,
which is the model's choice (log 39). -/
def Obligations.SetModeEffects : Prop :=
  ∀ (s : State) (w : Word), s.Hears (.setMode w) →
    (∀ m, plantModeArg w.toNat = some m → s.yardStop = false →
      ∃ t : State, exec (.setMode w) s = .next (t.endExecution 0x03 (.done t.plantWords))
        ∧ t.mode = m ∧ t.time = s.time ∧ t.yardStop = false ∧ t.attn.zones = s.attn.zones
        ∧ (s.mode = m → t = s)
        ∧ (s.mode ≠ m → m = .standby → ∀ z < 48, (t.heater z).output = false ∧ (t.heater z).duty = 0)
        ∧ (s.mode ≠ m → ∀ c < 4, s.ModeTaken t c (s.effMode c)))
    ∧ (plantModeArg w.toNat = none → exec (.setMode w) s = .next (s.endExecution 0x03 (.failed .range)))
    ∧ (plantModeArg w.toNat ≠ none → s.yardStop = true →
      exec (.setMode w) s = .next (s.endExecution 0x03 (.failed .mode)))

/-- LINK_SETUP (R163, R192): a controller that is OFF or DOWN is started at the rate; an UP link at the same rate is left
alone, and at another rate is restarted with its slots empty, its cranes going OFFLINE but for those WORKING. -/
def Obligations.LinkSetupEffects : Prop :=
  ∀ (s : State) (w : Word) (r : LinkRate), s.Hears (.linkSetup w) → linkRateArg w.toNat = some r →
    (s.link.state ≠ .up → exec (.linkSetup w) s = .next (({ s with link :=
      { state := .down, rate := r, wait := .starting, slots := Vector.replicate 4 {}, onBus := none } } :
        State).endExecution 0x05 (.done [])))
    ∧ (s.link.state = .up → s.link.rate = r → exec (.linkSetup w) s = .next (s.endExecution 0x05 (.done [])))
    ∧ (s.link.state = .up → s.link.rate ≠ r →
      ∃ t : State, exec (.linkSetup w) s = .next (t.endExecution 0x05 (.done []))
        ∧ t.link = { state := .down, rate := r, wait := .starting, slots := Vector.replicate 4 {}, onBus := none }
        ∧ ∀ c < 4, (t.crane c).state = if (s.crane c).state = .working then .working else .offline)

/-- PURGE ALL (R182): in STANDBY with no lift in flight, the piece and order tables, the bays and the stock but its OUT
slots are emptied, every program is IDLE, every bed FREE, every mix unused; block definitions, tags, mixes and modes
stay. -/
def Obligations.PurgeAllEffects : Prop :=
  ∀ s : State, s.Hears (.purgeAll 1) → s.mode = .standby → s.nothingInLift = true →
    ∃ t : State, exec (.purgeAll 1) s = .next (t.endExecution 0x06 (.done []))
      ∧ t.pieces = [] ∧ t.orders = [] ∧ t.tags = s.tags ∧ t.counter = s.counter ∧ t.cranes = s.cranes
      ∧ t.time = s.time ∧ t.mode = s.mode ∧ t.link = s.link
      ∧ (∀ m < 16, t.mix m = { s.mix m with inUse := 0 })
      ∧ (∀ b < 12, (t.bed b).state = .free ∧ (t.bed b).profile = (s.bed b).profile)
      ∧ (∀ k < 4, t.block k = { s.block k with
          slots := (s.block k).slots.filter (fun e => e.2.isOut), footprints := [], closed := [] })
      ∧ (∀ k < 4, (t.zone (48 + k)).state = .idle)
      ∧ (∀ b < 4, t.bay b = { count := 0, pieces := [] })
      ∧ ∀ n < 8, t.program n = { s.program n with state := .idle, order := none }

/-- PURGE ORDERS (R135, R182): every ended order leaves its slot, every live one stays, and their number is answered; the
end of the step follows. -/
def Obligations.PurgeOrdersEffects : Prop :=
  ∀ s : State, s.Hears .purgeOrders →
    ∃ u t : State, exec .purgeOrders s = .next (t.endExecution 0x06
        (.done [fullWord (s.records.filter fun e => !e.2.state.live).length]))
      ∧ u = { s with orders := u.orders }
      ∧ (∀ slot < 128, u.order slot = (s.order slot).filter fun o => o.state.live)
      ∧ Settles u t

/-! ### Mixes and beds -/

/-- LOAD_MIX that passes its checks replaces the whole record and nothing else (R46, R47). -/
def Obligations.LoadMixWrites : Prop :=
  ∀ (s : State) (mix : Word) (a : MixArgs), s.Hears (.loadMix mix a) → mix.toNat < 16 → (s.mix mix.toNat).inUse = 0 →
    -200 ≤ a.t0.toInt → a.t0.toInt ≤ 100 → 400 ≤ a.tmax.toInt → a.tmax.toInt ≤ 800 →
    1 ≤ a.limit.toNat → a.limit.toNat ≤ 255 →
    (a.points[0]).1 = 0 → (∀ i (h : i < 7), a.points[i].1.toNat < a.points[i + 1].1.toNat) →
    (∀ i (h : i < 7), a.points[i].2.toNat ≤ a.points[i + 1].2.toNat) → a.points[7].2.toNat ≤ 1200 →
    a.strip.toNat ≤ a.release.toNat → a.release.toNat ≤ a.dispatch.toNat → a.dispatch.toNat ≤ 1200 →
    ∃ t : State, exec (.loadMix mix a) s = .next (t.endExecution 0x08 (.done []))
      ∧ t = { s with mixes := t.mixes } ∧ (∀ m, m ≠ mix.toNat → t.mix m = s.mix m)
      ∧ (t.mix mix.toNat).loaded = true ∧ (t.mix mix.toNat).inUse = 0
      ∧ (t.mix mix.toNat).t0 = a.t0.toInt ∧ (t.mix mix.toNat).tmax = a.tmax.toInt
      ∧ (t.mix mix.toNat).limit = a.limit.toNat ∧ (t.mix mix.toNat).strip = a.strip.toNat
      ∧ (t.mix mix.toNat).release = a.release.toNat ∧ (t.mix mix.toNat).dispatch = a.dispatch.toNat
      ∧ ∀ i (h : i < 8), (t.mix mix.toNat).curve[i] = (a.points[i].1.toNat, a.points[i].2.toNat)

/-- SET_BED takes a FREE bed to SET with the kind, counts and zone map given, entries beyond the positions stored as 0,
and enters it in the bed attention set (R28, R41). -/
def Obligations.SetBedWrites : Prop :=
  ∀ (s : State) (bed kind : Byte) (positions zones : Word) (map : BitVec 48) (k : BedKind),
    s.Hears (.setBed bed kind positions zones map) → bedKindArg kind.toNat = some k → bed.toNat < 12 →
    1 ≤ positions.toNat → positions.toNat ≤ 24 → 1 ≤ zones.toNat → zones.toNat ≤ 4 → (s.bed bed.toNat).state = .free →
    (∀ p < positions.toNat, mapBits map p < zones.toNat) →
    ∃ (t : State) (m : Vector Nat 24), exec (.setBed bed kind positions zones map) s = .next (t.endExecution 0x0C (.done []))
      ∧ t = { s with beds := t.beds, attn := { s.attn with beds := sinsert bed.toNat s.attn.beds } }
      ∧ (∀ b, b ≠ bed.toNat → t.bed b = s.bed b)
      ∧ t.bed bed.toNat = { s.bed bed.toNat with
          kind := k, positions := positions.toNat, zoneCount := zones.toNat, zoneMap := m, state := .set }
      ∧ ∀ p < 24, vget m p = if p < positions.toNat then map.toNat / 4 ^ p % 4 else 0

/-- DECLARE that passes its checks opens a record with the values of R3, counts one use of the mix and writes the entry
(R3, R4, R11, R29). AMEND_PIECE of a DECLARED piece gives each flagged field its new value; a new mix brings its first
strength and moves one use (R4, R15). Neither changes anything else. -/
def Obligations.DeclareAndAmend : Prop :=
  ∀ (s : State) (id : IdBits), id ≠ 0 →
    (∀ (bed position : Byte) (mark : Word) (mix footprint : Byte),
      s.Hears (.declare bed position id mark mix footprint) → bed.toNat < 12 → position.toNat < 24 →
      mix.toNat < 16 → footprint.toNat < 16 → (s.bed bed.toNat).state = .set →
      position.toNat < (s.bed bed.toNat).positions → s.entry bed.toNat position.toNat = .empty →
      s.piece id.toNat = none → (s.mix mix.toNat).loaded = true → s.pieces.length < 1024 →
      ∃ t : State, exec (.declare bed position id mark mix footprint) s = .next (t.endExecution 0x0D (.done []))
        ∧ t = { s with pieces := t.pieces, mixes := t.mixes, beds := t.beds }
        ∧ t.piece id.toNat = some {
            mark := mark.toNat, mix := mix.toNat, footprint := footprint.toNat, homeBed := bed.toNat,
            homePos := position.toNat, stage := .declared, loc := .none, uncertain := false, quality := .opened,
            waived := false, castTime := none, creditStart := none, maturity := 0, residual := 0,
            strength := (vget (s.mix mix.toNat).curve 0).2, gateStrip := false, gateRelease := false,
            gateDispatch := false, overheat := 0, order := none, releaseTime := none }
        ∧ (∀ j, j ≠ id.toNat → t.piece j = s.piece j)
        ∧ t.mix mix.toNat = { s.mix mix.toNat with inUse := (s.mix mix.toNat).inUse + 1 }
        ∧ (∀ m, m ≠ mix.toNat → t.mix m = s.mix m)
        ∧ t.bed bed.toNat = { s.bed bed.toNat with entries := (t.bed bed.toNat).entries }
        ∧ (∀ b, b ≠ bed.toNat → t.bed b = s.bed b)
        ∧ t.entry bed.toNat position.toNat = .declared id.toNat
        ∧ ∀ p, p ≠ position.toNat → t.entry bed.toNat p = s.entry bed.toNat p)
    ∧ (∀ (flags mark mix footprint : Word) (p : Piece), s.Hears (.amendPiece id flags mark mix footprint) →
      s.piece id.toNat = some p → p.stage = .declared →
      (flags.getLsbD 1 = true → mix.toNat < 16 ∧ (s.mix mix.toNat).loaded = true) →
      (flags.getLsbD 2 = true → footprint.toNat < 16) →
      ∃ t : State, exec (.amendPiece id flags mark mix footprint) s = .next (t.endExecution 0x1A (.done []))
        ∧ t = { s with pieces := t.pieces, mixes := t.mixes } ∧ (∀ j, j ≠ id.toNat → t.piece j = s.piece j)
        ∧ t.piece id.toNat = some { p with
            mark := if flags.getLsbD 0 then mark.toNat else p.mark
            mix := if flags.getLsbD 1 then mix.toNat else p.mix
            strength := if flags.getLsbD 1 then (vget (s.mix mix.toNat).curve 0).2 else p.strength
            footprint := if flags.getLsbD 2 then footprint.toNat else p.footprint }
        ∧ (flags.getLsbD 1 = false → t.mixes = s.mixes)
        ∧ (flags.getLsbD 1 = true →
          (∀ m, m ≠ p.mix → m ≠ mix.toNat → t.mix m = s.mix m)
          ∧ (p.mix < 16 → p.mix ≠ mix.toNat →
            t.mix p.mix = { s.mix p.mix with inUse := (s.mix p.mix).inUse - 1 }
            ∧ t.mix mix.toNat = { s.mix mix.toNat with inUse := (s.mix mix.toNat).inUse + 1 })
          ∧ (p.mix = mix.toNat → 1 ≤ (s.mix p.mix).inUse → t.mixes = s.mixes)))

/-- CAST that passes its checks (R30, R31): the cap, the entries and their pieces, the count of a PRESTRESS bed, the zones
of the cycle in ARMING, heat phase PRESET, the bed CURING and in its attention set. -/
def Obligations.CastEffects : Prop :=
  ∀ (s : State) (bed : Word), s.Hears (.cast bed) → bed.toNat < 12 → (s.bed bed.toNat).state = .set →
    (s.bed bed.toNat).has Entry.isDeclared = true → (s.bed bed.toNat).zoneCount ≤ 4 →
    ∃ t : State, exec (.cast bed) s = .next (t.endExecution 0x0E (.done []))
      ∧ t = { s with pieces := t.pieces, beds := t.beds, zones := t.zones, heaters := t.heaters, line := t.line,
                     attn := { s.attn with beds := sinsert bed.toNat s.attn.beds } }
      ∧ (∀ b, b ≠ bed.toNat → t.bed b = s.bed b)
      ∧ (t.bed bed.toNat).state = .curing ∧ (t.bed bed.toNat).phase = .preset ∧ (t.bed bed.toNat).phaseMinutes = 0
      ∧ (t.bed bed.toNat).cap = s.castCap bed.toNat
      ∧ ((s.bed bed.toNat).kind = .prestress → (t.bed bed.toNat).notYet = (t.bed bed.toNat).count Entry.isCast)
      ∧ (∀ p < 24, t.entry bed.toNat p = match s.entry bed.toNat p with
          | .declared id => .cast id
          | e => e)
      ∧ (∀ p < 24, ∀ id r, s.entry bed.toNat p = .declared id → s.piece id = some r →
          (∀ p' < 24, s.entry bed.toNat p' = .declared id → p' = p) →
          t.piece id = some { r with
            stage := .curing, loc := .bed bed.toNat p, castTime := some s.time, creditStart := some s.time })
      ∧ ∀ j < (s.bed bed.toNat).zoneCount, (t.zone (bed.toNat * 4 + j)).state = .arming

/-- DETENSIONED of a RELEASE_READY bed (R34): its cast pieces are LIFTABLE, the bed is OPEN and in its attention set. -/
def Obligations.DetensionedEffects : Prop :=
  ∀ (s : State) (bed : Word), s.Hears (.detensioned bed) → bed.toNat < 12 → (s.bed bed.toNat).state = .releaseReady →
    ∃ t : State, exec (.detensioned bed) s = .next (t.endExecution 0x0F (.done []))
      ∧ t.bed bed.toNat = { s.bed bed.toNat with state := .opened } ∧ (∀ b, b ≠ bed.toNat → t.bed b = s.bed b)
      ∧ t.zones = s.zones ∧ t.heaters = s.heaters ∧ t.attn = { s.attn with beds := sinsert bed.toNat s.attn.beds }
      ∧ ∀ id p, s.piece id = some p → ∃ q, t.piece id = some q
          ∧ q = { p with order := q.order, stage := if id ∈ s.castPieces bed.toNat then .liftable else p.stage }

/-- CLEAR_BED of a SET bed (R19, R37, R39): the records of its declared pieces end, its entries empty, it is FREE with no
cap and phase OFF, its zones are IDLE, and it enters the bed attention set. -/
def Obligations.ClearBedEffects : Prop :=
  ∀ (s : State) (bed : Word), s.Hears (.clearBed bed) → bed.toNat < 12 → (s.bed bed.toNat).state = .set →
    ∃ t : State, exec (.clearBed bed) s = .next (t.endExecution 0x11 (.done []))
      ∧ (t.bed bed.toNat).state = .free ∧ (t.bed bed.toNat).phase = .off ∧ (t.bed bed.toNat).cap = none
      ∧ (t.bed bed.toNat).notYet = 0 ∧ (t.bed bed.toNat).profile = (s.bed bed.toNat).profile
      ∧ (∀ p < 24, t.entry bed.toNat p = .empty)
      ∧ (∀ p < 24, ∀ id, s.entry bed.toNat p = .declared id → t.piece id = none)
      ∧ (∀ j < 4, (t.zone (bed.toNat * 4 + j)).state = .idle ∧ (t.heater (bed.toNat * 4 + j)).setpoint = none
        ∧ (t.heater (bed.toNat * 4 + j)).output = false)
      ∧ bed.toNat ∈ t.attn.beds

/-! ### Heat -/

/-- SET_PROFILE of a SET bed writes the profile and nothing else (R81). -/
def Obligations.SetProfileWrites : Prop :=
  ∀ (s : State) (bed preset ramp peak hold cool finish : Word),
    s.Hears (.setProfile bed preset ramp peak hold cool finish) → bed.toNat < 12 → preset.toNat ≤ 600 →
    1 ≤ ramp.toNat → ramp.toNat ≤ 350 → -400 ≤ peak.toInt → peak.toInt ≤ 1200 → hold.toNat ≤ 2880 →
    1 ≤ cool.toNat → cool.toNat ≤ 350 → -400 ≤ finish.toInt → finish.toInt ≤ 1200 → (s.bed bed.toNat).state = .set →
    ∃ t : State, exec (.setProfile bed preset ramp peak hold cool finish) s = .next (t.endExecution 0x14 (.done []))
      ∧ t = { s with beds := t.beds } ∧ (∀ b, b ≠ bed.toNat → t.bed b = s.bed b)
      ∧ t.bed bed.toNat = { s.bed bed.toNat with profile :=
          { preset := preset.toNat, ramp := ramp.toNat, peak := peak.toInt, hold := hold.toNat, cool := cool.toNat,
            finish := finish.toInt } }

/-- ZONE_SETUP (R79): an ambient zone takes the gap limit alone; a bed zone takes gap limit, gain, duty cap and mode,
and a change of mode sets the accumulator, the window and the on-seconds left to 0; the rest of the zone's heater
stays. -/
def Obligations.ZoneSetupWrites : Prop :=
  ∀ (s : State) (zone gap gain cap mode : Word), s.Hears (.zoneSetup zone gap gain cap mode) → zone.toNat < 52 →
    60 ≤ gap.toNat → gap.toNat ≤ 900 →
    (48 ≤ zone.toNat →
      ∃ t : State, exec (.zoneSetup zone gap gain cap mode) s = .next (t.endExecution 0x15 (.done []))
        ∧ t = { s with zones := t.zones } ∧ t.zone zone.toNat = { s.zone zone.toNat with gap := gap.toNat }
        ∧ ∀ z, z ≠ zone.toNat → t.zone z = s.zone z)
    ∧ (zone.toNat < 48 → 1 ≤ gain.toNat → gain.toNat ≤ 64 → cap.toNat ≤ 1023 → ∀ m,
      heaterModeArg mode.toNat = some m →
      ∃ t : State, exec (.zoneSetup zone gap gain cap mode) s = .next (t.endExecution 0x15 (.done []))
        ∧ t = { s with zones := t.zones, heaters := t.heaters }
        ∧ t.zone zone.toNat = { s.zone zone.toNat with gap := gap.toNat }
        ∧ (∀ z, z ≠ zone.toNat → t.zone z = s.zone z ∧ t.heater z = s.heater z)
        ∧ t.heater zone.toNat = if (s.heater zone.toNat).mode = m
          then { s.heater zone.toNat with gain := gain.toNat, dutyCap := cap.toNat }
          else { s.heater zone.toNat with
            gain := gain.toNat, dutyCap := cap.toNat, mode := m, accumulator := 0, window := 0, onLeft := 0 })

/-- A constant duty in SPREAD mode (R88): from an accumulator of 0, the output is on in exactly d of 1,024 seconds, and
the accumulator is 0 again. -/
def Obligations.SpreadModeCount : Prop :=
  ∀ (d : Nat) (h : Heater), d ≤ 1023 → h.accumulator = 0 →
    let run := (List.range 1024).foldl (fun (a : Heater × Nat) _ =>
      ((a.1.spreadTick d), a.2 + bit (a.1.spreadTick d).output)) (h, 0)
    run.2 = d ∧ run.1.accumulator = 0

/-! ### Maturity and strength -/

/-- A credit neither loses nor invents residual units (R57, R58): below the ceiling, 720 times the maturity plus the
residual rises by exactly the amount; a piece the ceiling stops stands there with residual 0. -/
def Obligations.CreditConserves : Prop :=
  ∀ (amount : Nat) (p : Piece),
    (p.credit amount).maturity * 720 + (p.credit amount).residual = p.maturity * 720 + p.residual + amount
    ∨ (p.credit amount).maturity = 16777215 ∧ (p.credit amount).residual = 0
      ∧ 16777215 * 720 ≤ p.maturity * 720 + p.residual + amount

/-- On a curve with rising maturities and strengths that do not fall, strength does not fall as maturity rises (R46,
R60). -/
def Obligations.StrengthNeverFalls : Prop :=
  ∀ (l : List (Nat × Nat)) (m m' : Nat), rising (l.map (·.1)) = true → notFalling (l.map (·.2)) = true → m ≤ m' →
    curveStrength m l ≤ curveStrength m' l

/-- SAMPLE, the zone's own record (R71 to R73): a good sample makes it LIVE with the clamped temperature; a fault sample
counts towards four, holding a zone that was trusted or STALE, and the fourth fails it with attention; an IDLE or FAILED
zone only notes the time. No other zone's record changes. -/
def Obligations.SampleZone : Prop :=
  ∀ (s : State) (z : Fin 52) (v : Word), ∃ t : State, exec (.sample z v) s = .next t ∧ t.time = s.time
    ∧ (∀ z' ≠ z.val, t.zone z' = s.zone z')
    ∧ (v ≠ 0x8000 → t.zone z.val = { s.zone z.val with
        lastGood := max (-400) (min v.toInt 1200), lastArrival := s.time, faultRun := 0, state := .live })
    ∧ (v = 0x8000 → (s.zone z.val).state = .idle ∨ (s.zone z.val).state = .failed →
        t.zone z.val = { s.zone z.val with lastArrival := s.time })
    ∧ (v = 0x8000 → (s.zone z.val).state = .arming → (s.zone z.val).faultRun < 3 →
        t.zone z.val = { s.zone z.val with lastArrival := s.time, faultRun := (s.zone z.val).faultRun + 1 })
    ∧ (v = 0x8000 → (s.zone z.val).state.trusted = true ∨ (s.zone z.val).state = .stale → (s.zone z.val).faultRun < 3 →
        t.zone z.val = { s.zone z.val with
          lastArrival := s.time, faultRun := (s.zone z.val).faultRun + 1, state := .holding })
    ∧ (v = 0x8000 → (s.zone z.val).state ≠ .idle → (s.zone z.val).state ≠ .failed → 3 ≤ (s.zone z.val).faultRun →
        t.zone z.val = { s.zone z.val with lastArrival := s.time, state := .failed } ∧ z.val ∈ t.attn.zones)

/-- SAMPLE, the pieces of the zone (R50 to R67): a good sample that ends ARMING or FAILED re-arms a piece that is not
RELEASED and credits none; a sample taken in LIVE, HOLDING or STALE, a fault among the first three in a row included,
runs a pass that credits it once by the interval and temperature of R55 to R57, tests its overheats and holds it with
attention where R67 has it, and where its maturity rose recomputes its strength and latches its gates (R60, R62); any
other sample leaves it. On agreeing records a STRIP latch takes a CURING piece of a FORM bed to LIFTABLE and opens its bed
(R35, R63), and a RELEASE latch counts on a PRESTRESS bed in CURING, which the last count takes to RELEASE_READY (R32,
R33, R64). -/
def Obligations.SampleCredits : Prop :=
  ∀ (s : State) (z : Fin 52) (v : Word) (id : Nat) (p : Piece),
    (s.zonePieces z.val).count id = 1 → s.piece id = some p → p.quality ≠ .released →
    let r := s.zone z.val
    let x := s.mix p.mix
    let arms := v ≠ 0x8000 ∧ (r.state = .arming ∨ r.state = .failed)
    let passes := (r.state.trusted = true ∨ r.state = .stale) ∧ (v = 0x8000 → r.faultRun < 3)
    let tc := if v = 0x8000 then r.lastGood else max (-400) (min v.toInt 1200)
    let interval := min (s.time - max r.lastArrival (p.creditStart.getD 0)) r.gap
    let amount := (min r.lastGood x.tmax + min tc x.tmax - 2 * x.t0).toNat * interval
    let overheat := if x.tmax < tc then min (p.overheat + 1) 255 else p.overheat
    let holds := x.tmax < tc ∧ x.limit < overheat ∧ p.quality = .opened ∧ p.waived = false
    ∃ (t : State) (q : Piece), exec (.sample z v) s = .next t ∧ t.piece id = some q
      ∧ (arms → q = { p with creditStart := some s.time, order := q.order })
      ∧ (¬arms → ¬passes → q = { p with order := q.order })
      ∧ (passes →
        q = { p with
          overheat := overheat, quality := if holds then .held .overheat else p.quality
          maturity := (p.credit amount).maturity, residual := (p.credit amount).residual, strength := q.strength
          gateStrip := q.gateStrip, gateRelease := q.gateRelease, gateDispatch := q.gateDispatch
          stage := q.stage, order := q.order }
        ∧ (holds → id ∈ t.attn.pieces)
        ∧ (p.maturity < q.maturity → q.strength = x.strengthAt q.maturity
          ∧ q.gateStrip = (p.gateStrip || decide (x.strip ≤ q.strength))
          ∧ q.gateRelease = (p.gateRelease || decide (x.release ≤ q.strength))
          ∧ q.gateDispatch = (p.gateDispatch || decide (x.dispatch ≤ q.strength)))
        ∧ (¬p.maturity < q.maturity → q.strength = p.strength ∧ q.gateStrip = p.gateStrip
          ∧ q.gateRelease = p.gateRelease ∧ q.gateDispatch = p.gateDispatch))
      ∧ (passes → s.Agrees → ∀ b pos, p.loc = .bed b pos →
        let strips := (s.bed b).kind = .form ∧ p.stage = .curing ∧ p.gateStrip = false ∧ q.gateStrip = true
        let releases := p.gateRelease = false ∧ q.gateRelease = true ∧ (s.bed b).kind = .prestress
          ∧ (s.bed b).state = .curing
        q.stage = (if strips then .liftable else p.stage)
        ∧ (strips → (t.bed b).state = .opened ∧ ((s.bed b).state = .curing → b ∈ t.attn.beds)
          ∧ (t.bedHasCuring b = false → (t.bed b).phase ≠ .preset ∧ (t.bed b).phase ≠ .ramp ∧ (t.bed b).phase ≠ .hold))
        ∧ (releases → 1 ≤ (s.bed b).notYet → (t.bed b).notYet < (s.bed b).notYet)
        ∧ (releases → (s.bed b).notYet ≤ 1 → (t.bed b).state = .releaseReady ∧ (t.bed b).notYet = 0 ∧ b ∈ t.attn.beds
          ∧ (t.bed b).phase ≠ .preset ∧ (t.bed b).phase ≠ .ramp ∧ (t.bed b).phase ≠ .hold))

/-! ### Commands that read -/

/-- READ_MIX, BED_STATUS, ZONE_STATUS, ORDER_STATUS, TRANSFER_STATUS and CRANE_STATUS answer with the words of their
record and change nothing (R40, R48, R80, R135, R146, R150). -/
def Obligations.StatusCommandsAnswer : Prop :=
  ∀ (s : State) (w : Word),
    (s.Hears (.readMix w) → w.toNat < 16 →
      exec (.readMix w) s = .next (s.endExecution 0x09 (.done (s.mix w.toNat).words)))
    ∧ (s.Hears (.bedStatus w) → w.toNat < 12 →
      exec (.bedStatus w) s = .next (s.endExecution 0x10 (.done (s.bed w.toNat).words)))
    ∧ (s.Hears (.zoneStatus w) → w.toNat < 52 →
      exec (.zoneStatus w) s = .next (s.endExecution 0x16 (.done (s.zoneWords w.toNat))))
    ∧ (s.Hears (.orderStatus w) → ∀ o, (handleArg w).slot < 128 → s.order (handleArg w).slot = some o →
      o.tag = (handleArg w).tag →
      exec (.orderStatus w) s = .next (s.endExecution 0x2C (.done (s.orderWords (handleArg w).slot o))))
    ∧ (s.Hears (.transferStatus w) → w.toNat < 8 →
      exec (.transferStatus w) s = .next (s.endExecution 0x33 (.done ((s.program w.toNat).words w.toNat))))
    ∧ (s.Hears (.craneStatus w) → w.toNat < 4 →
      exec (.craneStatus w) s = .next (s.endExecution 0x37 (.done (s.craneWords w.toNat))))

/-- GET_PIECE, FIND_AT, READ_ROW, FIND_SLOT and QUERY_EMPTY answer from the records and change nothing (R12, R13, R109,
R110, R113). That FIND_AT answers a place without a piece with five words too is the model's reading (log 9). -/
def Obligations.QueriesAnswer : Prop :=
  ∀ s : State,
    let found := fun id : Nat => idWords id ++ [packed [(0, 1, bit (s.uncertainOf id))]]
    let nothing := [absentWord, absentWord, absentWord]
    (∀ id p, s.Hears (.getPiece id) → id ≠ 0 → s.piece id.toNat = some p →
      exec (.getPiece id) s = .next (s.endExecution 0x18 (.done (p.words id.toNat))))
    ∧ (∀ loc b p, s.Hears (.findAt loc) → locArg loc = .place (.bed b p) → b < 12 → p < (s.bed b).positions →
      exec (.findAt loc) s = .next (s.endExecution 0x19 (.done (fullWord 1 :: match s.entry b p with
        | .empty => fullWord 0 :: nothing
        | .declared id => fullWord 1 :: found id
        | .cast id => fullWord 2 :: found id
        | .void => fullWord 3 :: nothing
        | .vacated _ => fullWord 4 :: nothing))))
    ∧ (∀ loc k r st tt, s.Hears (.findAt loc) → locArg loc = .place (.stock k r st tt) → k < 4 →
      (s.block k).within r st tt = true →
      exec (.findAt loc) s = .next (s.endExecution 0x19 (.done (fullWord 3 :: match (s.block k).cell r st tt with
        | none => fullWord 0 :: nothing
        | some (.reserved h) => [fullWord 1, handleWord h, absentWord, absentWord]
        | some (.occupied id) => fullWord 2 :: found id
        | some .out => fullWord 3 :: nothing))))
    ∧ (∀ loc c, s.Hears (.findAt loc) → locArg loc = .place (.hook c) → c < 4 →
      exec (.findAt loc) s = .next (s.endExecution 0x19 (.done
        ([fullWord 2, fullWord (s.crane c).hookCell.length] ++ (s.crane c).hookCell.flatMap fun id =>
          [packed [(0, 8, id / 65536), (15, 1, bit (s.uncertainOf id))], fullWord id]))))
    ∧ (∀ loc b, s.Hears (.findAt loc) → locArg loc = .place (.bay b) → b < 4 →
      exec (.findAt loc) s = .next (s.endExecution 0x19 (.done
        ([fullWord 4, byteWord (s.bay b).pieces.length ((s.bay b).count - (s.bay b).pieces.length)]
          ++ (s.bay b).pieces.flatMap idWords))))
    ∧ (∀ block row : Byte, s.Hears (.readRow block row) → block.toNat < 4 → (s.block block.toNat).defined = true →
      row.toNat < (s.block block.toNat).rows →
      exec (.readRow block row) s = .next (s.endExecution 0x23 (.done ((s.block block.toNat).rowWords row.toNat))))
    ∧ (∀ block footprint : Byte, s.Hears (.findSlot block footprint) → block.toNat < 4 → footprint.toNat < 16 →
      (s.block block.toNat).defined = true →
      exec (.findSlot block footprint) s = .next (s.endExecution 0x24
        (match s.search block.toNat footprint.toNat [] with
          | some (r, st, t) => .done (locWords (.stock block.toNat r st t))
          | none => .failed .noSlot)))
    ∧ (∀ bed : BitVec 4, s.Hears (.queryEmptyBed bed) → bed.toNat < 12 →
      exec (.queryEmptyBed bed) s = .next (s.endExecution 0x27 (.done
        [packed [(0, 1, bit (!(s.bed bed.toNat).has Entry.keeps))], fullWord ((s.bed bed.toNat).count Entry.isDeclared),
          fullWord ((s.bed bed.toNat).count Entry.isCast), fullWord ((s.bed bed.toNat).count Entry.isOpen)])))
    ∧ (∀ (k : BitVec 4) (first last : Byte), s.Hears (.queryEmptyBlock k first last) → k.toNat < 4 →
      (s.block k.toNat).defined = true → first.toNat ≤ last.toNat → last.toNat < (s.block k.toNat).rows →
      let occupied := (s.block k.toNat).countRows first.toNat last.toNat Cell.isOccupied
      let reserved := (s.block k.toNat).countRows first.toNat last.toNat Cell.isReserved
      exec (.queryEmptyBlock k first last) s = .next (s.endExecution 0x27 (.done
        [packed [(0, 1, bit (occupied == 0 && reserved == 0))], fullWord occupied, fullWord reserved,
          fullWord ((s.block k.toNat).countRows first.toNat last.toNat Cell.isOut)])))

/-- The slot search (R99): what it finds is admitted and not excluded, and nothing admitted comes before it, row by row,
in each row by tier from 1 up with tier 0 last, in each tier by stack; where it finds nothing, nothing is admitted. -/
def Obligations.SearchOrder : Prop :=
  ∀ (s : State) (k f : Nat) (ex : List (Nat × Nat)), (s.block k).defined = true →
    let ok := fun r st t => r < (s.block k).rows ∧ st < (s.block k).perRow ∧ t < (s.block k).tiers
      ∧ s.admits k r st t f = true ∧ (r, st) ∉ ex
    let rank := fun t => if t = 0 then (s.block k).tiers else t
    match s.search k f ex with
    | some (r, st, t) => ok r st t ∧ ∀ r' st' t', ok r' st' t' →
        r < r' ∨ r = r' ∧ (rank t < rank t' ∨ t = t' ∧ st ≤ st')
    | none => ∀ r st t, ¬ok r st t

/-! ### Pieces -/

/-- SCRAP_PIECE cancels the piece's order, ends its record, frees its place and one use of its mix, and leaves every other
record but for the order it may be bound to (R16, R17, R36); RETIRE_PIECE does so for a piece at a bay that is bound to no
order (R18). The premise on the order's piece leaves out states that no run reaches (R9). -/
def Obligations.RecordsEnd : Prop :=
  ∀ (s : State) (id : IdBits) (p : Piece), id ≠ 0 → s.piece id.toNat = some p → p.mix < 16 →
    (s.Hears (.scrapPiece id) → p.loc.isHook = false → s.lifting p = false → s.buried p = false →
      (∀ h o, p.order = some h → s.order h.slot = some o → o.piece = id.toNat) →
      ∃ t : State, exec (.scrapPiece id) s = .next (t.endExecution 0x1B (.done [])) ∧ t.piece id.toNat = none
        ∧ t.mix p.mix = { s.mix p.mix with inUse := (s.mix p.mix).inUse - 1 }
        ∧ (∀ m, m ≠ p.mix → t.mix m = s.mix m) ∧ t.time = s.time ∧ t.mode = s.mode
        ∧ (∀ j, j ≠ id.toNat → s.piece j = none → t.piece j = none)
        ∧ (∀ j r, j ≠ id.toNat → s.piece j = some r → ∃ q, t.piece j = some q ∧ q = { r with order := q.order })
        ∧ (∀ h o, p.order = some h → s.order h.slot = some o →
            ∃ o', t.order h.slot = some o' ∧ o'.state = .cancelled ∧ o'.outcome = some .byHost)
        ∧ t.attn.orders = s.attn.orders ∧ t.attn.pieces = s.attn.pieces
        ∧ (p.loc = .none → p.homeBed < 12 → p.homePos < 24 → t.entry p.homeBed p.homePos = .empty)
        ∧ (∀ b pos, p.loc = .bed b pos → b < 12 → pos < 24 → t.entry b pos = .void ∨ t.entry b pos = .empty)
        ∧ (∀ k r st tt, p.loc = .stock k r st tt → (t.block k).occupied r st tt = false)
        ∧ (∀ b, p.loc = .bay b → id.toNat ∉ (t.bay b).pieces))
    ∧ (∀ b, s.Hears (.retirePiece id) → p.loc = .bay b → p.order = none →
      ∃ t : State, exec (.retirePiece id) s = .next (t.endExecution 0x1C (.done []))
        ∧ Settles { s with
            pieces := tdel s.pieces id.toNat
            mixes := vmod s.mixes p.mix fun x => { x with inUse := x.inUse - 1 }
            bays := vmod s.bays b fun r => { r with pieces := serase id.toNat r.pieces, count := r.count - 1 } } t)

/-- HOLD_PIECE (R166): its three checks in order, each refusal changing nothing; an OPEN piece is HELD with cause HOST, a
HELD one stands as it is; the answer carries quality and cause; nothing else changes. -/
def Obligations.HoldPieceActs : Prop :=
  ∀ (s : State) (id : IdBits), s.Hears (.holdPiece id) →
    (id = 0 → exec (.holdPiece id) s = .next (s.endExecution 0x1E (.failed .range)))
    ∧ (id ≠ 0 → s.piece id.toNat = none → exec (.holdPiece id) s = .next (s.endExecution 0x1E (.failed .notFound)))
    ∧ (∀ p, id ≠ 0 → s.piece id.toNat = some p →
      (p.quality = .released → exec (.holdPiece id) s = .next (s.endExecution 0x1E (.failed .locked)))
      ∧ (p.quality = .opened → ∃ t : State, exec (.holdPiece id) s =
            .next (t.endExecution 0x1E (.done [packed [(0, 2, 1), (8, 2, 1)]]))
          ∧ t = { s with pieces := t.pieces } ∧ t.piece id.toNat = some { p with quality := .held .host }
          ∧ ∀ j, j ≠ id.toNat → t.piece j = s.piece j)
      ∧ (∀ cause, p.quality = .held cause → ∃ t : State, exec (.holdPiece id) s =
            .next (t.endExecution 0x1E (.done [packed [(0, 2, 1), (8, 2, if cause = .host then 1 else 2)]]))
          ∧ t = { s with pieces := t.pieces } ∧ ∀ j, t.piece j = s.piece j))

/-- UNHOLD_PIECE of a HELD piece opens it, and waives the overheat where that was the cause; nothing else changes
(R167). -/
def Obligations.UnholdPieceOpens : Prop :=
  ∀ (s : State) (id : IdBits) (p : Piece) (cause : HoldCause), s.Hears (.unholdPiece id) → id ≠ 0 →
    s.piece id.toNat = some p → p.quality = .held cause →
    ∃ t : State, exec (.unholdPiece id) s = .next (t.endExecution 0x1F (.done []))
      ∧ t = { s with pieces := t.pieces } ∧ (∀ j, j ≠ id.toNat → t.piece j = s.piece j)
      ∧ t.piece id.toNat = some { p with quality := .opened, waived := if cause = .overheat then true else p.waived }

/-- RELEASE_PIECE: the seven checks of R168 in order, each refusal changing nothing; a piece that passes is RELEASED at
the plant time, its release time and strength answered, nothing else changed (R168, R169). -/
def Obligations.ReleasePieceActs : Prop :=
  ∀ (s : State) (id : IdBits), s.Hears (.releasePiece id) →
    (id = 0 → exec (.releasePiece id) s = .next (s.endExecution 0x20 (.failed .range)))
    ∧ (id ≠ 0 → s.piece id.toNat = none → exec (.releasePiece id) s = .next (s.endExecution 0x20 (.failed .notFound)))
    ∧ ∀ p, id ≠ 0 → s.piece id.toNat = some p →
      (p.quality = .released → exec (.releasePiece id) s = .next (s.endExecution 0x20 (.failed .locked)))
      ∧ (∀ cause, p.quality = .held cause →
          exec (.releasePiece id) s = .next (s.endExecution 0x20 (.failed .wrongState)))
      ∧ (p.quality = .opened → p.stage ≠ .liftable →
          exec (.releasePiece id) s = .next (s.endExecution 0x20 (.failed .wrongState)))
      ∧ (p.quality = .opened → p.stage = .liftable → (∃ c, p.loc = .hook c) →
          exec (.releasePiece id) s = .next (s.endExecution 0x20 (.failed .wrongState)))
      ∧ (p.quality = .opened → p.stage = .liftable → (∀ c, p.loc ≠ .hook c) →
          p.strength < (s.mix p.mix).dispatch →
          exec (.releasePiece id) s = .next (s.endExecution 0x20 (.failed .strength)))
      ∧ (p.quality = .opened → p.stage = .liftable → (∀ c, p.loc ≠ .hook c) →
          (s.mix p.mix).dispatch ≤ p.strength →
          ∃ t : State, exec (.releasePiece id) s = .next (t.endExecution 0x20 (.done
              [fullWord (s.time / 65536), fullWord s.time, fullWord p.strength]))
            ∧ t = { s with pieces := t.pieces } ∧ (∀ j, j ≠ id.toNat → t.piece j = s.piece j)
            ∧ t.piece id.toNat = some { p with quality := .released, releaseTime := some s.time })

/-! ### Stock -/

/-- DEFINE_BLOCK defines a block with every slot FREE (R92); SLOT_OUT takes a slot out of use and hands nothing on (R111);
SLOT_IN frees it again and hands it to MS (R112). After DEFINE_BLOCK, and after SLOT_IN where no order is searched again
first (R125), the block's orders waiting in NO_SLOT are evaluated again (R124): the one of lowest sequence with the new
slots as they are; where no other order waits, and its piece is not buried, its state and claim are those of that
evaluation, unless it is offered at once. -/
def Obligations.StockCommands : Prop :=
  ∀ s : State,
    (∀ k rows perRow tiers : Word, s.Hears (.defineBlock k rows perRow tiers) → k.toNat < 4 → 1 ≤ rows.toNat →
      rows.toNat ≤ 16 → 1 ≤ perRow.toNat → perRow.toNat ≤ 32 → 1 ≤ tiers.toNat → tiers.toNat ≤ 6 →
      (∀ e ∈ (s.block k.toNat).slots, e.2 = .out) →
      ∃ t : State, exec (.defineBlock k rows perRow tiers) s = .next (t.endExecution 0x22 (.done []))
        ∧ Settles { s with
            blocks := vset s.blocks k.toNat
              { defined := true, rows := rows.toNat, perRow := perRow.toNat, tiers := tiers.toNat } } t
        ∧ ({ s with
            blocks := vset s.blocks k.toNat
              { defined := true, rows := rows.toNat, perRow := perRow.toNat, tiers := tiers.toNat } } :
            State).Reevaluates t k.toNat)
    ∧ (∀ loc k r st tt, s.Hears (.slotOut loc) → locArg loc = .place (.stock k r st tt) → k < 4 →
      (s.block k).within r st tt = true → (∀ j, tt ≤ j → j < (s.block k).tiers → (s.block k).cell r st j = none) →
      ∃ t : State, exec (.slotOut loc) s = .next (t.endExecution 0x25 (.done []))
        ∧ t = { s with blocks := t.blocks } ∧ (t.block k).cell r st tt = some .out
        ∧ (∀ j, j ≠ k → t.block j = s.block j)
        ∧ t.block k = { s.block k with slots := tput (s.block k).slots (slotKey r st tt) .out })
    ∧ (∀ loc k r st tt, s.Hears (.slotIn loc) → locArg loc = .place (.stock k r st tt) → k < 4 →
      (s.block k).within r st tt = true → (s.block k).cell r st tt = some .out →
      ∃ t : State, exec (.slotIn loc) s = .next (t.endExecution 0x26 (.done []))
        ∧ let u := { s with blocks := vmod s.blocks k fun b => { b with slots := tdel b.slots (slotKey r st tt) } }
          Settles u t ∧ (u.autoAbove ⟨k, r, st, tt⟩ = [] → u.Reevaluates t k))

/-! ### Orders -/

/-- ORDER_MOVE and ORDER_DISPATCH that pass their checks create an order in the lowest free slot, with the slot's next
tag and the next sequence, bind the piece to it, and answer its handle; class 0 leaves it PARKED (R116 to R120). Where
the records agree, an order of class 1 to 3, its explicit slot reserved, takes the state of the first check of R122 that
fails, or QUEUED, with the claim of its destination check; a buried pick runs its dig pass (R127, R128); and an IDLE
crane in RUN selects once the order is QUEUED (R130). That the answer carries the state the creation's own evaluation
gave is the model's reading (log 32). -/
def Obligations.OrdersCreated : Prop :=
  ∀ (s : State) (id : IdBits) (cls crane : Byte) (key : Word) (named : Option Nat) (p : Piece) (c slot : Nat),
    craneArg crane = some named → id ≠ 0 → cls.toNat ≤ 3 → s.piece id.toNat = some p → p.loc.isHook = false →
    p.order = none → s.freeRecord = some slot →
    let tag := (vget s.tags slot + 1) % 256
    let proto := fun (kind : OrderKind) (d : Dest) =>
      ({ tag := 0, sequence := 0, kind := kind, origin := .host, piece := id.toNat, cls := cls.toNat, key := key.toNat,
         crane := c, dest := d } : Order)
    let created := fun (t : State) (kind : OrderKind) (d : Dest) (o1 : Order) =>
      (s.work.create (proto kind d)).1.s.order slot = some o1
      ∧ o1.state.unoffered = true ∧ (cls = 0 → o1.state = .parked)
      ∧ t.piece id.toNat = some { p with order := some ⟨slot, tag⟩ }
      ∧ t.beds = s.beds ∧ t.mixes = s.mixes ∧ t.programs = s.programs ∧ t.attn = s.attn ∧ t.time = s.time
      ∧ ∃ o, t.order slot = some o ∧ (cls = 0 → o.state = .parked)
        ∧ (o.state.unoffered = true ∨ o.state = .offered)
        ∧ o = { proto kind d with
            tag := tag, sequence := s.counter, source := o.source, reserved := o.reserved, state := o.state }
        ∧ (cls ≠ 0 → o.state ≠ .parked ∧ (o1.state = .queued → o.state = .queued ∨ o.state = .offered))
        ∧ (cls ≠ 0 → s.Agrees →
          let o0 := { proto kind d with
            tag := tag, sequence := s.counter
            reserved := match d with
              | .slot k r st tt => some (.stock k r st tt)
              | _ => none }
          let u := (s.work.create (proto kind d)).1.s
          Settles u t ∧ s.Evaluated o0 p o1
          ∧ (∀ k r st tt, p.stage = .liftable → p.loc = .stock k r st tt → s.buried p = true →
            s.Dug u ⟨slot, tag⟩ o0 ⟨k, r, st, tt⟩ o1.state)
          ∧ (o1.state = .queued → (s.crane c).state = .idle → s.effMode c = .run → u.Chooses t c))
    (∀ dest d, s.Hears (.orderMove id dest cls crane key) → moveDest dest = some d →
      (s.block d.blockOr).defined = true → s.destWithin d = true → destSuits d p = true → s.destFree d p = true →
      s.chooseCrane named p d = some c →
      ∃ (t : State) (o1 : Order), exec (.orderMove id dest cls crane key) s =
          .next (t.endExecution 0x28 (.done [handleWord ⟨slot, tag⟩, o1.stateWord]))
        ∧ created t .move d o1)
    ∧ (∀ bay : Word, s.Hears (.orderDispatch id bay cls crane key) → bay.toNat < 4 → p.quality = .released →
      p.loc ≠ .bay bay.toNat → s.chooseCrane named p (.bay bay.toNat) = some c →
      ∃ (t : State) (o1 : Order), exec (.orderDispatch id bay cls crane key) s =
          .next (t.endExecution 0x29 (.done [handleWord ⟨slot, tag⟩, o1.stateWord]))
        ∧ created t .dispatch (.bay bay.toNat) o1)

/-- SET_CLASS of an order not yet offered (R133): class and key are written; class 0 parks it, its claim and retry wait
given up. Any other class promotes a PARKED order: it leaves PARKED, an explicit slot that passes R101 is reserved for it,
and it takes the state of the first check of R122 that fails, or QUEUED, with the claim of its destination check; a buried
pick runs its dig pass (R127, R128), and an IDLE crane in RUN selects once the order is QUEUED (R130). In a WAITING or
QUEUED order another class than 0 changes nothing else, nor anywhere but that a free transmitter offers its next message
(log 22). The answer carries the state the order is left in. -/
def Obligations.SetClassEffects : Prop :=
  ∀ (s : State) (handle cls key : Word) (slot : Nat) (o : Order), s.Hears (.setClass handle cls key) → cls.toNat ≤ 3 →
    slot = (handleArg handle).slot → slot < 128 → s.order slot = some o → o.tag = (handleArg handle).tag →
    o.state.unoffered = true →
    ∃ (t : State) (o' : Order), exec (.setClass handle cls key) s = .next (t.endExecution 0x2A (.done [o'.stateWord]))
      ∧ t.order slot = some o'
      ∧ o' = { o with cls := cls.toNat, key := key.toNat, reserved := o'.reserved, state := o'.state,
                      source := o'.source, retry := o'.retry }
      ∧ (cls = 0 → o'.state = .parked)
      ∧ (cls = 0 → o.state ≠ .parked → o'.retry = none ∧ (o.claimSound = true → o'.reserved = none))
      ∧ (cls ≠ 0 → o'.retry = o.retry ∧ (o'.state.unoffered = true ∨ o'.state = .offered))
      ∧ (∀ p, cls ≠ 0 → o.state = .parked → s.piece o.piece = some p →
        o'.state ≠ .parked ∧ (p.stage ≠ .liftable → o'.state = .waiting .notLiftable)
        ∧ (s.leavesStack o = true → ∃ (u : State) (o1 : Order), u.order slot = some o1 ∧ Settles u t
          ∧ let o0 := { o with
              cls := cls.toNat, key := key.toNat
              reserved := match o.dest with
                | .slot k r st tt =>
                  if s.explicitTest k r st tt p.footprint = true then some (.stock k r st tt) else o.reserved
                | _ => o.reserved }
            s.Evaluated o0 p o1 ∧ (o1.state = .queued → o'.state = .queued ∨ o'.state = .offered)
            ∧ (s.buried p = false → (∀ i i', i ≠ slot → s.order i = some i' → i'.state.isWaiting = false) →
              o'.state = o1.state ∨ o1.state = .queued ∧ o'.state = .offered)
            ∧ (∀ k r st tt, p.stage = .liftable → p.loc = .stock k r st tt → s.buried p = true → o.kind ≠ .rehandle →
              s.Dug u ⟨slot, o.tag⟩ o0 ⟨k, r, st, tt⟩ o1.state)
            ∧ (o1.state = .queued → (s.crane o.crane).state = .idle → s.effMode o.crane = .run → u.Chooses t o.crane)))
      ∧ (cls ≠ 0 → o.state ≠ .parked → o' = { o with cls := cls.toNat, key := key.toNat }
        ∧ t = { s with orders := t.orders, link := s.link.offerBus }
        ∧ ∀ i, i ≠ slot → t.order i = s.order i)
      ∧ t.beds = s.beds ∧ t.mixes = s.mixes ∧ t.programs = s.programs ∧ t.attn = s.attn ∧ t.time = s.time

/-- CANCEL_ORDER ends an order not yet offered, CANCELLED by the host, with its claim and its piece's certainty settled
and no attention (R132, R134); CLOSE_ORDER takes an ended order's record out of its slot (R135). -/
def Obligations.CancelAndClose : Prop :=
  ∀ (s : State) (handle : Word) (slot : Nat) (o : Order), slot = (handleArg handle).slot → slot < 128 →
    s.order slot = some o → o.tag = (handleArg handle).tag →
    (s.Hears (.cancelOrder handle) → o.state.unoffered = true →
      ∃ (t : State) (o' : Order), exec (.cancelOrder handle) s = .next (t.endExecution 0x2B (.done []))
        ∧ t.order slot = some o'
        ∧ o' = { o with
            state := .cancelled, outcome := some .byHost, retry := none, reserved := o'.reserved,
            source := ((s.piece o.piece).map (·.loc)).getD .none }
        ∧ (o.claimSound = true → o'.reserved = none)
        ∧ (∀ p, s.piece o.piece = some p → ∃ q, t.piece o.piece = some q
            ∧ q = { p with order := q.order, uncertain := false })
        ∧ t.attn.orders = s.attn.orders ∧ t.time = s.time ∧ t.mixes = s.mixes
        ∧ (∀ n < 8, o.origin = .program n → (s.program n).state = .running →
            (t.program n).state = .fault .order ∧ n ∈ t.attn.programs))
    ∧ (s.Hears (.closeOrder handle) → o.state.live = false →
      ∃ t : State, exec (.closeOrder handle) s = .next (t.endExecution 0x2D (.done []))
        ∧ Settles { s with orders := tdel s.orders slot } t)

/-! ### Transfer programs -/

/-- START_TRANSFER writes the program from the command and generates for item 0; RESUME_TRANSFER of a program in FAULT
generates for its current item (R139, R141, R145). What the generation leaves, and when it is RUNNING, DONE, FAULT(SLOT)
or FAULT(ORDER), is `State.Generated`; the answer carries the program's state after the step. -/
def Obligations.TransfersGenerate : Prop :=
  ∀ s : State,
    (∀ a : TransferArgs, s.Hears (.startTransfer a) → s.checkTransfer a = .ok () →
      ∃ (t : State) (g : Program), exec (.startTransfer a) s = .next (t.endExecution 0x30 (.done g.stateWords))
        ∧ s.Generated t a.program.toNat (transferProgram a) g)
    ∧ (∀ (w : Word) (r : FaultReason), s.Hears (.resumeTransfer w) → w.toNat < 8 →
      (s.program w.toNat).state = .fault r → (s.program w.toNat).item ≤ (s.program w.toNat).count →
      (s.program w.toNat).count ≤ 24 →
      ∃ (t : State) (g : Program), exec (.resumeTransfer w) s = .next (t.endExecution 0x32 (.done g.stateWords))
        ∧ s.Generated t w.toNat { s.program w.toNat with state := .running } g)

/-- STOP_TRANSFER (R143): a RUNNING program whose order is not yet offered ends DONE and its order CANCELLED with outcome
STOPPED; one whose order is in a lift is STOPPING; a program in FAULT ends DONE; a STOPPING one stays. -/
def Obligations.StopTransferEffects : Prop :=
  ∀ (s : State) (w : Word), s.Hears (.stopTransfer w) → w.toNat < 8 →
    (∀ h o, (s.program w.toNat).state = .running → (s.program w.toNat).order = some h → s.order h.slot = some o →
      (o.state.unoffered = true →
        ∃ (t : State) (o' : Order), exec (.stopTransfer w) s = .next (t.endExecution 0x31 (.done []))
          ∧ (t.program w.toNat).state = .done ∧ (t.program w.toNat).doneFlag = true ∧ w.toNat ∈ t.attn.programs
          ∧ t.order h.slot = some o' ∧ o'.state = .cancelled ∧ o'.outcome = some .stopped
          ∧ tget t.attn.orders h.slot = some o.tag)
      ∧ (o.state.unoffered = false →
        ∃ t : State, exec (.stopTransfer w) s = .next (t.endExecution 0x31 (.done []))
          ∧ t = { s with programs := t.programs } ∧ (∀ n, n ≠ w.toNat → t.program n = s.program n)
          ∧ t.program w.toNat = { s.program w.toNat with state := .stopping }))
    ∧ (∀ r, (s.program w.toNat).state = .fault r →
      ∃ t : State, exec (.stopTransfer w) s = .next (t.endExecution 0x31 (.done []))
        ∧ t = { s with programs := t.programs, attn := { s.attn with programs := sinsert w.toNat s.attn.programs } }
        ∧ t.program w.toNat = { s.program w.toNat with state := .done, doneFlag := true })
    ∧ ((s.program w.toNat).state = .stopping →
      exec (.stopTransfer w) s = .next (s.endExecution 0x31 (.done [])))

/-! ### Cranes -/

/-- CRANE_SETUP writes reach, lift limit and mode table (R149); the crane takes its new effective mode by the table of
R152, with its control message; where the mode stays as it was, nothing else changes but by the end of the step; no
other crane changes but by a selection. -/
def Obligations.CraneSetupWrites : Prop :=
  ∀ (s : State) (crane beds areas limit table : Word) (m : ModeTable),
    s.Hears (.craneSetup crane beds areas limit table) → crane.toNat < 4 → 60 ≤ limit.toNat → limit.toNat ≤ 3600 →
    modeTableArg table = some m →
    ((s.crane crane.toNat).state.busy = true → s.reachKeeps crane.toNat (reachArg beds areas) = true) →
    ∃ t : State, exec (.craneSetup crane beds areas limit table) s = .next (t.endExecution 0x36 (.done []))
      ∧ (t.crane crane.toNat).reach = reachArg beds areas ∧ (t.crane crane.toNat).limit = limit.toNat
      ∧ (t.crane crane.toNat).modes = m ∧ (t.crane crane.toNat).hookCell = (s.crane crane.toNat).hookCell
      ∧ (∀ c, c ≠ crane.toNat → (s.crane c).Offers (t.crane c)) ∧ t.time = s.time ∧ t.mode = s.mode
      ∧ (s.yardStop = true ∨ m.entry s.mode = (s.crane crane.toNat).modes.entry s.mode →
          Settles { s with cranes := vmod s.cranes crane.toNat fun r =>
            { r with reach := reachArg beds areas, limit := limit.toNat, modes := m } } t)
      ∧ ∀ c < 4, ({ s with cranes := vmod s.cranes crane.toNat fun r =>
            { r with reach := reachArg beds areas, limit := limit.toNat, modes := m } } : State).ModeTaken t c (s.effMode c)

/-- CONFIRM_LIFT settles an UNRESOLVED lift (R161, R162): AT_SOURCE cancels the order, a hooked piece going back to its
source with its credit start now (R53); AT_DESTINATION completes it, the piece standing where the order had its claim;
LOST fails it and ends the piece's record. In each the piece is bound to the order no more (R10), and where its record
lives it is certain again. -/
def Obligations.ConfirmLiftSettles : Prop :=
  ∀ (s : State) (handle : Word) (slot : Nat) (o : Order) (p : Piece), slot = (handleArg handle).slot → slot < 128 →
    s.order slot = some o → o.tag = (handleArg handle).tag → o.state = .unresolved → s.piece o.piece = some p →
    (s.Hears (.confirmLiftAtSource handle 1) → (s.isHooked o = true → s.takesBack o = true) →
      ∃ (t : State) (o' : Order) (q : Piece), exec (.confirmLiftAtSource handle 1) s =
          .next (t.endExecution 0x38 (.done []))
        ∧ t.order slot = some o' ∧ o'.state = .cancelled ∧ o'.outcome = some .byHost ∧ o'.source = o.source
        ∧ (o.claimSound = true → o'.reserved = none) ∧ t.attn.orders = s.attn.orders
        ∧ t.piece o.piece = some q ∧ q.uncertain = false ∧ q.maturity = p.maturity
        ∧ q.order ≠ some (o.handle slot)
        ∧ q.loc = (if s.isHooked o = true then o.source else p.loc)
        ∧ q.creditStart = (if s.isHooked o = true then some s.time else p.creditStart)
        ∧ (∀ b pos, s.isHooked o = true → o.source = .bed b pos → b < 12 → pos < 24 → t.entry b pos = .cast o.piece))
    ∧ (∀ l, s.Hears (.confirmLiftAtDestination handle) → o.reserved = some l → o.claimSound = true →
      ∃ (t : State) (o' : Order) (q : Piece), exec (.confirmLiftAtDestination handle) s =
          .next (t.endExecution 0x38 (.done []))
        ∧ t.order slot = some o' ∧ o'.state = .done ∧ o'.outcome = some .confirmed ∧ o'.reserved = none
        ∧ tget t.attn.orders slot = some o.tag
        ∧ t.piece o.piece = some q ∧ q.uncertain = false ∧ q.loc = l ∧ q.maturity = p.maturity
        ∧ q.order ≠ some (o.handle slot)
        ∧ (∀ k r st tt, l = .stock k r st tt → q.creditStart = some s.time)
        ∧ (∀ b, l = .bay b → q.creditStart = p.creditStart))
    ∧ (s.Hears (.confirmLiftLost handle) → p.mix < 16 →
      ∃ (t : State) (o' : Order), exec (.confirmLiftLost handle) s = .next (t.endExecution 0x38 (.done []))
        ∧ t.order slot = some o' ∧ o'.state = .failed ∧ o'.outcome = some .lost
        ∧ tget t.attn.orders slot = some o.tag ∧ t.piece o.piece = none
        ∧ (t.mix p.mix).inUse = (s.mix p.mix).inUse - 1)

/-- READY settles the crane by its effective mode, returns the order it was OFFERED, with its attempts and retry wait as
they were, and makes a lift it was WORKING at UNRESOLVED (R151, R160); it places the control message of the mode (R151)
and withdraws the LIFT of an offer or, as a STOP, any (R194); in RUN the crane selects the first of its candidates (R130).
FAULT takes a crane that holds no order, or whose order it
names, OFFLINE with attention and notes its reason, its unsent LIFT withdrawn (log 33); an offered order and an unhooked
lift return in the same way, and a hooked lift becomes UNRESOLVED (R154, R158). A FAULT for another order is ignored: no
record changes, and a free transmitter offers its next message, as at the end of any step (log 22). -/
def Obligations.ReadyAndFault : Prop :=
  ∀ (s : State) (c : Fin 4) (e : CraneWord),
    let returned := fun (t : State) (slot : Nat) (o : Order) => ∃ o', t.order slot = some o'
      ∧ (o'.state = .queued ∨ o'.state = .offered) ∧ o'.attempts = o.attempts ∧ o'.retry = o.retry
    (∃ t : State, exec (.ready c e) s = .next t
      ∧ ((t.crane c.val).state = (s.effMode c.val).settled ∨ s.effMode c.val = .run ∧ (t.crane c.val).state = .offered)
      ∧ ((t.crane c.val).state ≠ .offered → (t.crane c.val).order = none ∧ (t.crane c.val).acceptTimer = 0
        ∧ (t.crane c.val).liftTimer = 0 ∧ (t.crane c.val).hooked = false)
      ∧ (t.crane c.val).hookCell = (s.crane c.val).hookCell ∧ (t.crane c.val).reach = (s.crane c.val).reach
      ∧ t.time = s.time ∧ t.mode = s.mode
      ∧ s.Posts t c.val (some (s.effMode c.val))
          (decide ((s.crane c.val).state = .offered) || decide (s.effMode c.val = .stop))
          (decide ((t.crane c.val).state = .offered))
      ∧ (∀ x < 4, x ≠ c.val → s.Posts t x none false (s.newlyOffered t x))
      ∧ (s.effMode c.val = .run → s.Chooses t c.val)
      ∧ (∀ h o, (s.crane c.val).state = .offered → (s.crane c.val).order = some h → s.order h.slot = some o →
          s.Requeues h.slot → returned t h.slot o)
      ∧ ∀ h o p, (s.crane c.val).state = .working → (s.crane c.val).order = some h → s.order h.slot = some o →
          s.piece o.piece = some p →
          ∃ o' q, t.order h.slot = some o' ∧ o'.state = .unresolved ∧ o'.source = o.source
            ∧ t.piece o.piece = some q ∧ q.uncertain = true ∧ q.loc = p.loc)
    ∧ ((s.crane c.val).order = none ∨ (s.crane c.val).order = some (eventHandle e) →
      ∃ t : State, exec (.fault c e) s = .next t
        ∧ (t.crane c.val).state = .offline ∧ (t.crane c.val).lastReason = e.reason.toNat
        ∧ ((s.crane c.val).state ≠ .offline → (t.crane c.val).order = none ∧ c.val ∈ t.attn.cranes)
        ∧ (t.crane c.val).hookCell = (s.crane c.val).hookCell
        ∧ s.Posts t c.val none true false ∧ (∀ x < 4, x ≠ c.val → s.Posts t x none false (s.newlyOffered t x))
        ∧ (∀ h o, (s.crane c.val).state = .offered ∨ (s.crane c.val).state = .working ∧ (s.crane c.val).hooked = false →
            (s.crane c.val).order = some h → s.order h.slot = some o → s.Requeues h.slot → returned t h.slot o)
        ∧ ∀ h o p, (s.crane c.val).state = .working → (s.crane c.val).hooked = true →
            (s.crane c.val).order = some h → s.order h.slot = some o → s.piece o.piece = some p →
            ∃ o' q, t.order h.slot = some o' ∧ o'.state = .unresolved ∧ t.piece o.piece = some q ∧ q.uncertain = true)
    ∧ ((s.crane c.val).order ≠ none → (s.crane c.val).order ≠ some (eventHandle e) →
      exec (.fault c e) s = .next { s with link := s.link.offerBus })

/-- ACCEPT of the offered order starts the lift and its timer (R155). REFUSE of it returns it to QUEUED with one attempt
more and a wait of 30 s, at the third fails it with attention, and where its program is STOPPING returns it only for the
program to cancel it and be DONE (R144); in each the crane settles (R155), its unsent LIFT withdrawn (R194), and in RUN
selects the first of its candidates (R130). An event that names another order, or comes in another state, is ignored
(R154): no record changes, and a free transmitter offers its next message, as at the end of any step (log 22). -/
def Obligations.AcceptAndRefuse : Prop :=
  ∀ (s : State) (c : Fin 4) (e : CraneWord),
    ((s.crane c.val).order ≠ some (eventHandle e) ∨ (s.crane c.val).state ≠ .offered →
      exec (.accept c e) s = .next { s with link := s.link.offerBus }
      ∧ exec (.refuse c e) s = .next { s with link := s.link.offerBus })
    ∧ (∀ o, s.order e.slot.toNat = some o → (s.crane c.val).order = some (eventHandle e) →
      (s.crane c.val).state = .offered →
      (∃ (t : State) (o' : Order), exec (.accept c e) s = .next t ∧ t.order e.slot.toNat = some o' ∧ o'.state = .working
        ∧ t.crane c.val = { s.crane c.val with
            state := .working, acceptTimer := 0, liftTimer := (s.crane c.val).limit }
        ∧ ∀ x < 4, s.Posts t x none false (s.newlyOffered t x))
      ∧ ∃ (t : State) (o' : Order), exec (.refuse c e) s = .next t ∧ t.order e.slot.toNat = some o'
        ∧ o'.attempts = o.attempts + 1 ∧ (t.crane c.val).lastReason = e.reason.toNat
        ∧ ((t.crane c.val).state = (s.effMode c.val).settled
          ∨ s.effMode c.val = .run ∧ (t.crane c.val).state = .offered)
        ∧ s.Posts t c.val none true (decide ((t.crane c.val).state = .offered))
        ∧ (s.effMode c.val = .run → s.Chooses t c.val)
        ∧ (∀ x < 4, x ≠ c.val → s.Posts t x none false (s.newlyOffered t x))
        ∧ (o.attempts < 2 → s.Requeues e.slot.toNat → o'.state = .queued ∧ o'.retry = some (s.time + 30))
        ∧ (2 ≤ o.attempts → o'.state = .failed ∧ o'.outcome = some .refusedOut
          ∧ tget t.attn.orders e.slot.toNat = some o.tag)
        ∧ ∀ n, o.attempts < 2 → o.origin = .program n → (s.program n).state = .stopping →
          o'.state = .cancelled ∧ o'.outcome = some .stopped ∧ tget t.attn.orders e.slot.toNat = some o.tag
          ∧ (t.program n).state = .done ∧ (t.program n).doneFlag = true ∧ n ∈ t.attn.programs)

/-- HOOKED of the current order takes the piece from its source onto the crane's hook (R105, R106, R156). LANDED of it,
hooked or not, in OFFERED or WORKING, puts the piece where the order had its claim and ends the order DONE with
attention; a source not yet left is freed, and the crane settles, in RUN selecting the first of its candidates, which
comes with its LIFT (R130, R153, R157). Where the records agree, so that no other order holds the destination slot, the
slot is OCCUPIED by the piece (R94, R105, R106). A LANDED that names an UNRESOLVED order of the crane ends it DONE with
outcome LATE (R161). -/
def Obligations.HookedAndLanded : Prop :=
  ∀ (s : State) (c : Fin 4) (e : CraneWord) (o : Order) (p : Piece), s.order e.slot.toNat = some o →
    s.piece o.piece = some p →
    ((s.crane c.val).order = some (eventHandle e) →
      (s.crane c.val).state = .offered ∨ (s.crane c.val).state = .working → (s.crane c.val).hooked = false →
      ∃ (t : State) (q : Piece), exec (.hooked c e) s = .next t ∧ t.piece o.piece = some q ∧ q.loc = .hook c.val
        ∧ q.maturity = p.maturity
        ∧ (t.crane c.val).state = .working ∧ (t.crane c.val).hooked = true
        ∧ (t.crane c.val).order = (s.crane c.val).order
        ∧ (t.crane c.val).hookCell = sinsert o.piece (s.crane c.val).hookCell
        ∧ (∀ b pos, p.loc = .bed b pos → b < 12 → pos < 24 → t.entry b pos = .vacated (some (eventHandle e)))
        ∧ (∀ k r st tt, p.loc = .stock k r st tt → (t.block k).occupied r st tt = false)
        ∧ (∀ b, p.loc = .bay b → o.piece ∉ (t.bay b).pieces))
    ∧ (∀ l, (s.crane c.val).order = some (eventHandle e) →
      (s.crane c.val).state = .offered ∨ (s.crane c.val).state = .working →
      o.crane = c.val → o.reserved = some l → o.claimSound = true →
      ∃ (t : State) (o' : Order) (q : Piece), exec (.landed c e) s = .next t ∧ t.order e.slot.toNat = some o'
        ∧ o'.state = .done ∧ o'.outcome = some .normal ∧ o'.reserved = none
        ∧ tget t.attn.orders e.slot.toNat = some o.tag
        ∧ t.piece o.piece = some q ∧ q.loc = l ∧ q.maturity = p.maturity
        ∧ (∀ k r st tt, l = .stock k r st tt → q.creditStart = some s.time
          ∧ (s.Agrees → k < 4 → (t.block k).cell r st tt = some (.occupied o.piece)))
        ∧ (∀ b, l = .bay b → q.creditStart = p.creditStart ∧ (b < 4 → o.piece ∈ (t.bay b).pieces))
        ∧ ((s.crane c.val).hooked = false →
          (∀ b pos, p.loc = .bed b pos → o.source = p.loc → b < 12 → pos < 24 →
            t.entry b pos = .vacated none ∨ t.entry b pos = .empty)
          ∧ (∀ k r st tt, p.loc = .stock k r st tt →
            (∀ r' st' t', l = .stock k r' st' t' → slotKey r' st' t' ≠ slotKey r st tt) →
            (t.block k).occupied r st tt = false)
          ∧ (∀ b, p.loc = .bay b → l ≠ p.loc → o.piece ∉ (t.bay b).pieces))
        ∧ (t.crane c.val).hookCell = serase o.piece (s.crane c.val).hookCell
        ∧ ((t.crane c.val).state = (s.effMode c.val).settled
          ∨ s.effMode c.val = .run ∧ (t.crane c.val).state = .offered)
        ∧ s.Posts t c.val none false (decide ((t.crane c.val).state = .offered))
        ∧ (s.effMode c.val = .run → s.Chooses t c.val))
    ∧ (∀ l, (s.crane c.val).order ≠ some (eventHandle e) → o.tag = e.tag.toNat → o.state = .unresolved →
      o.crane = c.val → o.reserved = some l → o.claimSound = true →
      ∃ (t : State) (o' : Order) (q : Piece), exec (.landed c e) s = .next t ∧ t.order e.slot.toNat = some o'
        ∧ o'.state = .done ∧ o'.outcome = some .late ∧ t.piece o.piece = some q ∧ q.loc = l ∧ q.uncertain = false)

/-! ### Time -/

/-- TICK (R74, R82 to R90, R131, R153, R159, R180): plant time rises by one modulo 2^32 and the second of the minute
with it. On a plant minute each bed's phase, phase minute count and setpoints move as R82 to R86 give (that the count
rises in RAMP is the model's reading, log 17), and on any other tick they stand; the premise leaves out only ticks in
which a STOPPING program's order can end, with which an unreachable state could free or cool a bed. Where no crane's
timer runs out in it: a zone whose last arrival lies too far back goes STALE; a bed zone's duty is that of R87 where
heat is allowed, and its output follows from it by SPREAD (R88) or BLOCK (R89); where heat is not allowed duty and
counts are 0 and the output is off; the heater line is handed the 48 outputs (R90); an accept or lift timer falls by
one; no message is placed but the LIFT of a selection (R153). A retry wait that is over is removed. -/
def Obligations.TickEffects : Prop :=
  ∀ s : State, s.Bounds → s.HeatLaw →
    ∃ t : State, exec .tick s = .next t ∧ t.time = (s.time + 1) % 4294967296
      ∧ t.minute = (if s.minute = 59 then 0 else s.minute + 1) ∧ t.mode = s.mode ∧ t.yardStop = s.yardStop
      ∧ t.mixes = s.mixes
      ∧ (s.NoExpiry →
        (s.time + 1 < 4294967296 → ∀ z < 52, t.zone z =
          if (s.zone z).state.trusted = true ∧ (s.zone z).gap < s.time + 1 - (s.zone z).lastArrival then
            { s.zone z with state := .stale } else s.zone z)
        ∧ (∀ z < 48,
          (∀ v, (t.zone z).state.trusted = true → (t.bed (z / 4)).phase.heats = true → s.mode ≠ .standby →
            s.yardStop = false → (t.heater z).setpoint = some v →
            let h := s.heater z
            let d := min ((h.gain : Int) * (v - (t.zone z).lastGood)).toNat h.dutyCap
            let left := if h.window = 0 then min (d / 16) 63 else h.onLeft
            t.heater z = { h with
              setpoint := some v, carry := (t.heater z).carry, duty := d
              accumulator := if h.mode = .block then h.accumulator else (h.accumulator + d) % 1024
              window := if h.mode = .block then (h.window + 1) % 64 else h.window
              onLeft := if h.mode = .block then left - 1 else h.onLeft
              output := if h.mode = .block then decide (0 < left) else decide (1024 ≤ h.accumulator + d) })
          ∧ ((t.zone z).state.trusted = false ∨ (t.bed (z / 4)).phase.heats = false ∨ (t.heater z).setpoint = none
              ∨ s.mode = .standby ∨ s.yardStop = true →
            t.heater z = { s.heater z with
              setpoint := (t.heater z).setpoint, carry := (t.heater z).carry
              duty := 0, accumulator := 0, window := 0, onLeft := 0, output := false }))
        ∧ t.line = { s.line with shifting := some (t.heaters.map (·.output)), ticked := true }
        ∧ ∀ c < 4, s.Posts t c none false (s.newlyOffered t c))
      ∧ (s.NoExpiry ∨ s.NoStopping →
        (s.minute = 59 → ∀ b < 12, s.MinuteTaken t b)
        ∧ (s.minute ≠ 59 → (∀ b < 12, t.bed b = s.bed b) ∧ ∀ z < 48, (s.heater z).Stands (t.heater z)))
      ∧ (∀ c < 4, (s.crane c).state = .offered → 2 ≤ (s.crane c).acceptTimer →
          t.crane c = { s.crane c with acceptTimer := (s.crane c).acceptTimer - 1 })
      ∧ (∀ c < 4, (s.crane c).state = .working → 2 ≤ (s.crane c).liftTimer →
          t.crane c = { s.crane c with liftTimer := (s.crane c).liftTimer - 1 })
      ∧ ∀ slot < 128, ∀ o r, s.order slot = some o → o.state = .queued → o.retry = some r → r ≤ t.time →
          (∀ c < 4, s.currentSlot c ≠ some slot) → ∃ o', t.order slot = some o' ∧ o'.retry = none

/-- The rows that name a tick by an event in it are that tick where the event is due in it, and show the event (R74, R82
to R84, R131, R153, R159, R180): at the first accept expiry the LIFT is placed again, at the second it is withdrawn
(R153, R194), and the end of a retry wait brings an IDLE crane in RUN to a selection (R131). That such a row is the
whole tick, and that it does nothing where its event is not due, is the model's choice (logs 3 and 4). -/
def Obligations.NamedTicks : Prop :=
  ∀ s : State,
    let named := fun (row : Instr) (due : Prop) =>
      (due → exec row s = exec .tick s) ∧ (¬due → exec row s = .next s)
    named .plantMinute (s.minute = 59)
    ∧ (∀ b : Fin 12, named (.presetEnd b) (s.minute = 59 ∧ (s.bed b.val).phase = .preset
        ∧ (s.bed b.val).phaseMinutes = (s.bed b.val).profile.preset))
    ∧ (∀ b : Fin 12, named (.holdLimit b) (s.minute = 59 ∧ (s.bed b.val).phase = .hold ∧ (s.bed b.val).profile.hold ≠ 0
        ∧ (s.bed b.val).profile.hold ≤ (s.bed b.val).phaseMinutes + 1))
    ∧ (∀ z : Fin 52, named (.stale z) (s.time + 1 ≠ 4294967296 ∧ (s.zone z.val).state.trusted = true
        ∧ (s.zone z.val).gap < s.time + 1 - (s.zone z.val).lastArrival))
    ∧ (∀ c : Fin 4, named (.acceptExpiry c) ((s.crane c.val).state = .offered ∧ (s.crane c.val).acceptTimer ≤ 1))
    ∧ (∀ c : Fin 4, named (.liftLimitExpiry c) ((s.crane c.val).state = .working ∧ (s.crane c.val).liftTimer ≤ 1))
    ∧ (∀ slot : Fin 128, named (.retryWaitEnd slot) (∃ o r, s.order slot.val = some o ∧ o.state = .queued
        ∧ o.retry = some r ∧ (s.time + 1 = 4294967296 ∨ r ≤ s.time + 1)))
    ∧ (s.Bounds → s.HeatLaw → s.time + 1 < 4294967296 →
      (s.minute = 59 → ∃ t : State, exec .plantMinute s = .next t ∧ t.minute = 0 ∧ t.time = s.time + 1)
      ∧ (∀ b : Fin 12, s.minute = 59 → s.NoExpiry → (s.bed b.val).phase = .preset →
        (s.bed b.val).phaseMinutes = (s.bed b.val).profile.preset →
        ∃ t : State, exec (.presetEnd b) s = .next t ∧ t.time = s.time + 1
          ∧ ((t.bed b.val).phase = .ramp ∨ (t.bed b.val).phase = .hold) ∧ (t.bed b.val).phaseMinutes = 0)
      ∧ (∀ b : Fin 12, s.minute = 59 → s.NoExpiry → (s.bed b.val).phase = .hold →
        (s.bed b.val).profile.hold ≠ 0 → (s.bed b.val).profile.hold ≤ (s.bed b.val).phaseMinutes + 1 →
        ∃ t : State, exec (.holdLimit b) s = .next t ∧ t.time = s.time + 1
          ∧ ((t.bed b.val).phase = .cool ∨ (t.bed b.val).phase = .done))
      ∧ (∀ z : Fin 52, s.NoExpiry → (s.zone z.val).state.trusted = true →
        (s.zone z.val).gap < s.time + 1 - (s.zone z.val).lastArrival →
        ∃ t : State, exec (.stale z) s = .next t ∧ t.time = s.time + 1 ∧ (t.zone z.val).state = .stale
          ∧ z.val ∈ t.attn.zones ∧ (z.val < 48 → (t.heater z.val).output = false))
      ∧ (∀ c : Fin 4, (s.crane c.val).state = .offered → (s.crane c.val).acceptTimer = 1 →
        ∃ t : State, exec (.acceptExpiry c) s = .next t ∧ t.time = s.time + 1
          ∧ ((s.crane c.val).resent = false → t.crane c.val = { s.crane c.val with resent := true, acceptTimer := 2 })
          ∧ ((s.crane c.val).resent = true → (t.crane c.val).state = .offline ∧ (t.crane c.val).order = none
            ∧ c.val ∈ t.attn.cranes ∧ s.Posts t c.val none true false)
          ∧ ∀ h o, (s.crane c.val).resent = false → (s.crane c.val).order = some h → s.SoleLift c.val h.slot →
              s.order h.slot = some o → o.tag = h.tag → o.state = .offered → s.Posts t c.val none false true)
      ∧ (∀ c : Fin 4, (s.crane c.val).state = .working → (s.crane c.val).liftTimer = 1 →
        ∃ t : State, exec (.liftLimitExpiry c) s = .next t ∧ t.time = s.time + 1
          ∧ (t.crane c.val).state = .offline ∧ c.val ∈ t.attn.cranes
          ∧ ∀ h o, (s.crane c.val).order = some h → s.SoleLift c.val h.slot → s.order h.slot = some o →
              ∃ o', t.order h.slot = some o' ∧ o'.state = .unresolved)
      ∧ (∀ (slot : Fin 128) (o : Order) (r : Nat), s.order slot.val = some o → o.state = .queued → o.retry = some r →
        r ≤ s.time + 1 → (∀ c < 4, s.currentSlot c ≠ some slot.val) →
        ∃ (t : State) (o' : Order), exec (.retryWaitEnd slot) s = .next t ∧ t.time = s.time + 1
          ∧ t.order slot.val = some o' ∧ o'.retry = none
          ∧ (o.crane < 4 → (s.crane o.crane).state = .idle → s.effMode o.crane = .run →
            s.isCandidate o.crane { o with retry := none } = true → (t.crane o.crane).state = .offered)))

/-! ### The yard stop, the link and the heater line -/

/-- YARD_STOP_ASSERTED puts every output off and gives every crane the mode STOP: one that was not at STOP and not
OFFLINE is STOPPED, its OFFERED order back in QUEUED, its WORKING lift UNRESOLVED (R160, R178); YARD_STOP_RELEASED gives
each crane its mode again, and one that comes to RUN selects the first of its candidates (R130, R179). Each change of
mode is taken by the table of R152, with its control message. An assertion while asserted changes nothing (R178); that a
release while released does not either is the model's choice (log 4). -/
def Obligations.YardStopEdges : Prop :=
  ∀ s : State,
    (s.yardStop = false → ∃ t : State, exec .yardStopAsserted s = .next t ∧ t.yardStop = true ∧ t.mode = s.mode
      ∧ t.time = s.time ∧ (∀ z < 48, (t.heater z).output = false ∧ (t.heater z).duty = 0)
      ∧ (∀ c < 4, s.effMode c ≠ .stop → (s.crane c).state ≠ .offline →
          (t.crane c).state = .stopped ∧ (t.crane c).order = none)
      ∧ ∀ c < 4, t.effMode c = .stop ∧ s.ModeTaken t c (s.effMode c))
    ∧ (s.yardStop = true → exec .yardStopAsserted s = .next s)
    ∧ (s.yardStop = true → ∃ t : State, exec .yardStopReleased s = .next t ∧ t.yardStop = false ∧ t.mode = s.mode
      ∧ t.time = s.time
      ∧ ∀ c < 4, t.effMode c = (s.crane c).modes.entry s.mode ∧ s.ModeTaken t c (s.effMode c))
    ∧ (s.yardStop = false → exec .yardStopReleased s = .next s)

/-- The field link's events and the heater line's (R163, R192 to R197): a received frame of the identifier plan is the
sample or the crane event that it carries; a crane frame of another event code changes no record, and a free transmitter
offers its next message, as at the end of any step (log 22); any other frame, and any frame while the link is not UP,
changes nothing (R193). An acknowledged message leaves its slot, unless the slot was replaced or withdrawn under it, and
the waiting message of lowest identifier is offered (R194, R195); a failed one stays; bus-off takes the link DOWN with
its slots empty and every crane but a WORKING one OFFLINE (R163, R196); a DOWN link rises by the event it waits for;
HLAT moves the shifted set to the contactor chain. -/
def Obligations.LinkAndLineEvents : Prop :=
  ∀ s : State,
    (∀ (f : CanFrame) (z : Fin 52) (b0 b1 : Byte), s.link.state = .up → f.extended = false → f.remote = false →
      f.ident.toNat = 0x300 + z.val → f.data = [b0, b1] →
      ∃ t : State, exec (.frameReceived f) s = .next t ∧ exec (.sample z (b0 ++ b1)) s = .next t)
    ∧ (∀ (f : CanFrame) (c : Fin 4) (code slot tag reason : Byte), s.link.state = .up → f.extended = false →
      f.remote = false → f.ident.toNat = 0x180 + c.val → f.data = [code, slot, tag, reason] →
      ∃ t : State, exec (.frameReceived f) s = .next t
        ∧ (code = 1 → exec (.ready c ⟨slot, tag, reason⟩) s = .next t)
        ∧ (code = 2 → exec (.accept c ⟨slot, tag, reason⟩) s = .next t)
        ∧ (code = 3 → exec (.refuse c ⟨slot, tag, reason⟩) s = .next t)
        ∧ (code = 4 → exec (.hooked c ⟨slot, tag, reason⟩) s = .next t)
        ∧ (code = 5 → exec (.landed c ⟨slot, tag, reason⟩) s = .next t)
        ∧ (code = 6 → exec (.fault c ⟨slot, tag, reason⟩) s = .next t)
        ∧ (code = 0 ∨ 6 < code.toNat → t = { s with link := s.link.offerBus }))
    ∧ (∀ f : CanFrame, s.link.state = .up →
      f.extended = true ∨ f.remote = true
        ∨ ¬ (0x300 ≤ f.ident.toNat ∧ f.ident.toNat < 0x334 ∧ f.data.length = 2)
          ∧ ¬ (0x180 ≤ f.ident.toNat ∧ f.ident.toNat < 0x184 ∧ f.data.length = 4) →
      exec (.frameReceived f) s = .next s)
    ∧ (∀ f, s.link.state ≠ .up → exec (.frameReceived f) s = .next s)
    ∧ (∀ m, s.link.state = .up → s.link.onBus = some (m, false) →
      ∃ t : State, exec .transmitAcknowledged s = .next t
        ∧ t = { s with link := (({ s.link with onBus := none } : Link).clearSlot m).offerBus })
    ∧ (∀ m, s.link.state = .up → s.link.onBus = some (m, true) →
      exec .transmitAcknowledged s = .next { s with link := ({ s.link with onBus := none } : Link).offerBus })
    ∧ (∀ m, s.link.state = .up → s.link.onBus = some m →
      exec .transmissionFailed s = .next { s with link :=
        { s.link with onBus := s.link.waiting.head?.map fun x => (x, false) } })
    ∧ (s.link.state = .up → ∃ t : State, exec .busOff s = .next t
      ∧ t.link = { s.link with state := .down, wait := .busOff, slots := Vector.replicate 4 {}, onBus := none }
      ∧ t.time = s.time ∧ t.mode = s.mode
      ∧ ∀ c < 4, (t.crane c).state = if (s.crane c).state = .working then .working else .offline)
    ∧ (s.link.state = .down → s.link.wait = .busOff →
      exec .busRejoin s = .next { s with link := { s.link with state := .up } })
    ∧ (s.link.state = .down → s.link.wait = .starting →
      exec .linkUp s = .next { s with link := { s.link with state := .up } })
    ∧ ∀ outputs, s.line.shifting = some outputs →
      exec .heaterLatch s = .next { s with line := { s.line with shifting := none, chain := outputs } }
end

