-- ==== Sys2Proof/Laws/State.lean ====
section
/-! SUPPORT. What each named update of State does to each field: the field it writes, and every other field unchanged. -/

namespace Sys2Proof.Machine

variable (s : State)

/-! ### modPiece -/

@[simp] theorem State.modPiece_pieces (id : Nat) (f : Piece → Piece) : (s.modPiece id f).pieces = tmod s.pieces id f := rfl
@[simp] theorem State.modPiece_mixes (id : Nat) (f : Piece → Piece) : (s.modPiece id f).mixes = s.mixes := rfl
@[simp] theorem State.modPiece_beds (id : Nat) (f : Piece → Piece) : (s.modPiece id f).beds = s.beds := rfl
@[simp] theorem State.modPiece_zones (id : Nat) (f : Piece → Piece) : (s.modPiece id f).zones = s.zones := rfl
@[simp] theorem State.modPiece_heaters (id : Nat) (f : Piece → Piece) : (s.modPiece id f).heaters = s.heaters := rfl
@[simp] theorem State.modPiece_line (id : Nat) (f : Piece → Piece) : (s.modPiece id f).line = s.line := rfl
@[simp] theorem State.modPiece_blocks (id : Nat) (f : Piece → Piece) : (s.modPiece id f).blocks = s.blocks := rfl
@[simp] theorem State.modPiece_bays (id : Nat) (f : Piece → Piece) : (s.modPiece id f).bays = s.bays := rfl
@[simp] theorem State.modPiece_tags (id : Nat) (f : Piece → Piece) : (s.modPiece id f).tags = s.tags := rfl
@[simp] theorem State.modPiece_counter (id : Nat) (f : Piece → Piece) : (s.modPiece id f).counter = s.counter := rfl
@[simp] theorem State.modPiece_orders (id : Nat) (f : Piece → Piece) : (s.modPiece id f).orders = s.orders := rfl
@[simp] theorem State.modPiece_programs (id : Nat) (f : Piece → Piece) : (s.modPiece id f).programs = s.programs := rfl
@[simp] theorem State.modPiece_cranes (id : Nat) (f : Piece → Piece) : (s.modPiece id f).cranes = s.cranes := rfl
@[simp] theorem State.modPiece_mode (id : Nat) (f : Piece → Piece) : (s.modPiece id f).mode = s.mode := rfl
@[simp] theorem State.modPiece_yardStop (id : Nat) (f : Piece → Piece) : (s.modPiece id f).yardStop = s.yardStop := rfl
@[simp] theorem State.modPiece_time (id : Nat) (f : Piece → Piece) : (s.modPiece id f).time = s.time := rfl
@[simp] theorem State.modPiece_minute (id : Nat) (f : Piece → Piece) : (s.modPiece id f).minute = s.minute := rfl
@[simp] theorem State.modPiece_port (id : Nat) (f : Piece → Piece) : (s.modPiece id f).port = s.port := rfl
@[simp] theorem State.modPiece_attn (id : Nat) (f : Piece → Piece) : (s.modPiece id f).attn = s.attn := rfl
@[simp] theorem State.modPiece_link (id : Nat) (f : Piece → Piece) : (s.modPiece id f).link = s.link := rfl
@[simp] theorem State.modPiece_freeCount (id : Nat) (f : Piece → Piece) : (s.modPiece id f).freeCount = s.freeCount := rfl
@[simp] theorem State.modPiece_pending (id : Nat) (f : Piece → Piece) : (s.modPiece id f).pending = s.pending := rfl

/-! ### modOrder -/

@[simp] theorem State.modOrder_pieces (slot : Nat) (f : Order → Order) : (s.modOrder slot f).pieces = s.pieces := rfl
@[simp] theorem State.modOrder_mixes (slot : Nat) (f : Order → Order) : (s.modOrder slot f).mixes = s.mixes := rfl
@[simp] theorem State.modOrder_beds (slot : Nat) (f : Order → Order) : (s.modOrder slot f).beds = s.beds := rfl
@[simp] theorem State.modOrder_zones (slot : Nat) (f : Order → Order) : (s.modOrder slot f).zones = s.zones := rfl
@[simp] theorem State.modOrder_heaters (slot : Nat) (f : Order → Order) : (s.modOrder slot f).heaters = s.heaters := rfl
@[simp] theorem State.modOrder_line (slot : Nat) (f : Order → Order) : (s.modOrder slot f).line = s.line := rfl
@[simp] theorem State.modOrder_blocks (slot : Nat) (f : Order → Order) : (s.modOrder slot f).blocks = s.blocks := rfl
@[simp] theorem State.modOrder_bays (slot : Nat) (f : Order → Order) : (s.modOrder slot f).bays = s.bays := rfl
@[simp] theorem State.modOrder_tags (slot : Nat) (f : Order → Order) : (s.modOrder slot f).tags = s.tags := rfl
@[simp] theorem State.modOrder_counter (slot : Nat) (f : Order → Order) : (s.modOrder slot f).counter = s.counter := rfl
@[simp] theorem State.modOrder_orders (slot : Nat) (f : Order → Order) : (s.modOrder slot f).orders = tmod s.orders slot f := rfl
@[simp] theorem State.modOrder_programs (slot : Nat) (f : Order → Order) : (s.modOrder slot f).programs = s.programs := rfl
@[simp] theorem State.modOrder_cranes (slot : Nat) (f : Order → Order) : (s.modOrder slot f).cranes = s.cranes := rfl
@[simp] theorem State.modOrder_mode (slot : Nat) (f : Order → Order) : (s.modOrder slot f).mode = s.mode := rfl
@[simp] theorem State.modOrder_yardStop (slot : Nat) (f : Order → Order) : (s.modOrder slot f).yardStop = s.yardStop := rfl
@[simp] theorem State.modOrder_time (slot : Nat) (f : Order → Order) : (s.modOrder slot f).time = s.time := rfl
@[simp] theorem State.modOrder_minute (slot : Nat) (f : Order → Order) : (s.modOrder slot f).minute = s.minute := rfl
@[simp] theorem State.modOrder_port (slot : Nat) (f : Order → Order) : (s.modOrder slot f).port = s.port := rfl
@[simp] theorem State.modOrder_attn (slot : Nat) (f : Order → Order) : (s.modOrder slot f).attn = s.attn := rfl
@[simp] theorem State.modOrder_link (slot : Nat) (f : Order → Order) : (s.modOrder slot f).link = s.link := rfl
@[simp] theorem State.modOrder_freeCount (slot : Nat) (f : Order → Order) : (s.modOrder slot f).freeCount = s.freeCount := rfl
@[simp] theorem State.modOrder_pending (slot : Nat) (f : Order → Order) : (s.modOrder slot f).pending = s.pending := rfl

/-! ### modMix -/

@[simp] theorem State.modMix_pieces (m : Nat) (f : Mix → Mix) : (s.modMix m f).pieces = s.pieces := rfl
@[simp] theorem State.modMix_mixes (m : Nat) (f : Mix → Mix) : (s.modMix m f).mixes = vmod s.mixes m f := rfl
@[simp] theorem State.modMix_beds (m : Nat) (f : Mix → Mix) : (s.modMix m f).beds = s.beds := rfl
@[simp] theorem State.modMix_zones (m : Nat) (f : Mix → Mix) : (s.modMix m f).zones = s.zones := rfl
@[simp] theorem State.modMix_heaters (m : Nat) (f : Mix → Mix) : (s.modMix m f).heaters = s.heaters := rfl
@[simp] theorem State.modMix_line (m : Nat) (f : Mix → Mix) : (s.modMix m f).line = s.line := rfl
@[simp] theorem State.modMix_blocks (m : Nat) (f : Mix → Mix) : (s.modMix m f).blocks = s.blocks := rfl
@[simp] theorem State.modMix_bays (m : Nat) (f : Mix → Mix) : (s.modMix m f).bays = s.bays := rfl
@[simp] theorem State.modMix_tags (m : Nat) (f : Mix → Mix) : (s.modMix m f).tags = s.tags := rfl
@[simp] theorem State.modMix_counter (m : Nat) (f : Mix → Mix) : (s.modMix m f).counter = s.counter := rfl
@[simp] theorem State.modMix_orders (m : Nat) (f : Mix → Mix) : (s.modMix m f).orders = s.orders := rfl
@[simp] theorem State.modMix_programs (m : Nat) (f : Mix → Mix) : (s.modMix m f).programs = s.programs := rfl
@[simp] theorem State.modMix_cranes (m : Nat) (f : Mix → Mix) : (s.modMix m f).cranes = s.cranes := rfl
@[simp] theorem State.modMix_mode (m : Nat) (f : Mix → Mix) : (s.modMix m f).mode = s.mode := rfl
@[simp] theorem State.modMix_yardStop (m : Nat) (f : Mix → Mix) : (s.modMix m f).yardStop = s.yardStop := rfl
@[simp] theorem State.modMix_time (m : Nat) (f : Mix → Mix) : (s.modMix m f).time = s.time := rfl
@[simp] theorem State.modMix_minute (m : Nat) (f : Mix → Mix) : (s.modMix m f).minute = s.minute := rfl
@[simp] theorem State.modMix_port (m : Nat) (f : Mix → Mix) : (s.modMix m f).port = s.port := rfl
@[simp] theorem State.modMix_attn (m : Nat) (f : Mix → Mix) : (s.modMix m f).attn = s.attn := rfl
@[simp] theorem State.modMix_link (m : Nat) (f : Mix → Mix) : (s.modMix m f).link = s.link := rfl
@[simp] theorem State.modMix_freeCount (m : Nat) (f : Mix → Mix) : (s.modMix m f).freeCount = s.freeCount := rfl
@[simp] theorem State.modMix_pending (m : Nat) (f : Mix → Mix) : (s.modMix m f).pending = s.pending := rfl

/-! ### modBed -/

@[simp] theorem State.modBed_pieces (b : Nat) (f : Bed → Bed) : (s.modBed b f).pieces = s.pieces := rfl
@[simp] theorem State.modBed_mixes (b : Nat) (f : Bed → Bed) : (s.modBed b f).mixes = s.mixes := rfl
@[simp] theorem State.modBed_beds (b : Nat) (f : Bed → Bed) : (s.modBed b f).beds = vmod s.beds b f := rfl
@[simp] theorem State.modBed_zones (b : Nat) (f : Bed → Bed) : (s.modBed b f).zones = s.zones := rfl
@[simp] theorem State.modBed_heaters (b : Nat) (f : Bed → Bed) : (s.modBed b f).heaters = s.heaters := rfl
@[simp] theorem State.modBed_line (b : Nat) (f : Bed → Bed) : (s.modBed b f).line = s.line := rfl
@[simp] theorem State.modBed_blocks (b : Nat) (f : Bed → Bed) : (s.modBed b f).blocks = s.blocks := rfl
@[simp] theorem State.modBed_bays (b : Nat) (f : Bed → Bed) : (s.modBed b f).bays = s.bays := rfl
@[simp] theorem State.modBed_tags (b : Nat) (f : Bed → Bed) : (s.modBed b f).tags = s.tags := rfl
@[simp] theorem State.modBed_counter (b : Nat) (f : Bed → Bed) : (s.modBed b f).counter = s.counter := rfl
@[simp] theorem State.modBed_orders (b : Nat) (f : Bed → Bed) : (s.modBed b f).orders = s.orders := rfl
@[simp] theorem State.modBed_programs (b : Nat) (f : Bed → Bed) : (s.modBed b f).programs = s.programs := rfl
@[simp] theorem State.modBed_cranes (b : Nat) (f : Bed → Bed) : (s.modBed b f).cranes = s.cranes := rfl
@[simp] theorem State.modBed_mode (b : Nat) (f : Bed → Bed) : (s.modBed b f).mode = s.mode := rfl
@[simp] theorem State.modBed_yardStop (b : Nat) (f : Bed → Bed) : (s.modBed b f).yardStop = s.yardStop := rfl
@[simp] theorem State.modBed_time (b : Nat) (f : Bed → Bed) : (s.modBed b f).time = s.time := rfl
@[simp] theorem State.modBed_minute (b : Nat) (f : Bed → Bed) : (s.modBed b f).minute = s.minute := rfl
@[simp] theorem State.modBed_port (b : Nat) (f : Bed → Bed) : (s.modBed b f).port = s.port := rfl
@[simp] theorem State.modBed_attn (b : Nat) (f : Bed → Bed) : (s.modBed b f).attn = s.attn := rfl
@[simp] theorem State.modBed_link (b : Nat) (f : Bed → Bed) : (s.modBed b f).link = s.link := rfl
@[simp] theorem State.modBed_freeCount (b : Nat) (f : Bed → Bed) : (s.modBed b f).freeCount = s.freeCount := rfl
@[simp] theorem State.modBed_pending (b : Nat) (f : Bed → Bed) : (s.modBed b f).pending = s.pending := rfl

/-! ### modZone -/

@[simp] theorem State.modZone_pieces (z : Nat) (f : Zone → Zone) : (s.modZone z f).pieces = s.pieces := rfl
@[simp] theorem State.modZone_mixes (z : Nat) (f : Zone → Zone) : (s.modZone z f).mixes = s.mixes := rfl
@[simp] theorem State.modZone_beds (z : Nat) (f : Zone → Zone) : (s.modZone z f).beds = s.beds := rfl
@[simp] theorem State.modZone_zones (z : Nat) (f : Zone → Zone) : (s.modZone z f).zones = vmod s.zones z f := rfl
@[simp] theorem State.modZone_heaters (z : Nat) (f : Zone → Zone) : (s.modZone z f).heaters = s.heaters := rfl
@[simp] theorem State.modZone_line (z : Nat) (f : Zone → Zone) : (s.modZone z f).line = s.line := rfl
@[simp] theorem State.modZone_blocks (z : Nat) (f : Zone → Zone) : (s.modZone z f).blocks = s.blocks := rfl
@[simp] theorem State.modZone_bays (z : Nat) (f : Zone → Zone) : (s.modZone z f).bays = s.bays := rfl
@[simp] theorem State.modZone_tags (z : Nat) (f : Zone → Zone) : (s.modZone z f).tags = s.tags := rfl
@[simp] theorem State.modZone_counter (z : Nat) (f : Zone → Zone) : (s.modZone z f).counter = s.counter := rfl
@[simp] theorem State.modZone_orders (z : Nat) (f : Zone → Zone) : (s.modZone z f).orders = s.orders := rfl
@[simp] theorem State.modZone_programs (z : Nat) (f : Zone → Zone) : (s.modZone z f).programs = s.programs := rfl
@[simp] theorem State.modZone_cranes (z : Nat) (f : Zone → Zone) : (s.modZone z f).cranes = s.cranes := rfl
@[simp] theorem State.modZone_mode (z : Nat) (f : Zone → Zone) : (s.modZone z f).mode = s.mode := rfl
@[simp] theorem State.modZone_yardStop (z : Nat) (f : Zone → Zone) : (s.modZone z f).yardStop = s.yardStop := rfl
@[simp] theorem State.modZone_time (z : Nat) (f : Zone → Zone) : (s.modZone z f).time = s.time := rfl
@[simp] theorem State.modZone_minute (z : Nat) (f : Zone → Zone) : (s.modZone z f).minute = s.minute := rfl
@[simp] theorem State.modZone_port (z : Nat) (f : Zone → Zone) : (s.modZone z f).port = s.port := rfl
@[simp] theorem State.modZone_attn (z : Nat) (f : Zone → Zone) : (s.modZone z f).attn = s.attn := rfl
@[simp] theorem State.modZone_link (z : Nat) (f : Zone → Zone) : (s.modZone z f).link = s.link := rfl
@[simp] theorem State.modZone_freeCount (z : Nat) (f : Zone → Zone) : (s.modZone z f).freeCount = s.freeCount := rfl
@[simp] theorem State.modZone_pending (z : Nat) (f : Zone → Zone) : (s.modZone z f).pending = s.pending := rfl

/-! ### modHeater -/

@[simp] theorem State.modHeater_pieces (z : Nat) (f : Heater → Heater) : (s.modHeater z f).pieces = s.pieces := rfl
@[simp] theorem State.modHeater_mixes (z : Nat) (f : Heater → Heater) : (s.modHeater z f).mixes = s.mixes := rfl
@[simp] theorem State.modHeater_beds (z : Nat) (f : Heater → Heater) : (s.modHeater z f).beds = s.beds := rfl
@[simp] theorem State.modHeater_zones (z : Nat) (f : Heater → Heater) : (s.modHeater z f).zones = s.zones := rfl
@[simp] theorem State.modHeater_heaters (z : Nat) (f : Heater → Heater) : (s.modHeater z f).heaters = vmod s.heaters z f := rfl
@[simp] theorem State.modHeater_line (z : Nat) (f : Heater → Heater) : (s.modHeater z f).line = s.line := rfl
@[simp] theorem State.modHeater_blocks (z : Nat) (f : Heater → Heater) : (s.modHeater z f).blocks = s.blocks := rfl
@[simp] theorem State.modHeater_bays (z : Nat) (f : Heater → Heater) : (s.modHeater z f).bays = s.bays := rfl
@[simp] theorem State.modHeater_tags (z : Nat) (f : Heater → Heater) : (s.modHeater z f).tags = s.tags := rfl
@[simp] theorem State.modHeater_counter (z : Nat) (f : Heater → Heater) : (s.modHeater z f).counter = s.counter := rfl
@[simp] theorem State.modHeater_orders (z : Nat) (f : Heater → Heater) : (s.modHeater z f).orders = s.orders := rfl
@[simp] theorem State.modHeater_programs (z : Nat) (f : Heater → Heater) : (s.modHeater z f).programs = s.programs := rfl
@[simp] theorem State.modHeater_cranes (z : Nat) (f : Heater → Heater) : (s.modHeater z f).cranes = s.cranes := rfl
@[simp] theorem State.modHeater_mode (z : Nat) (f : Heater → Heater) : (s.modHeater z f).mode = s.mode := rfl
@[simp] theorem State.modHeater_yardStop (z : Nat) (f : Heater → Heater) : (s.modHeater z f).yardStop = s.yardStop := rfl
@[simp] theorem State.modHeater_time (z : Nat) (f : Heater → Heater) : (s.modHeater z f).time = s.time := rfl
@[simp] theorem State.modHeater_minute (z : Nat) (f : Heater → Heater) : (s.modHeater z f).minute = s.minute := rfl
@[simp] theorem State.modHeater_port (z : Nat) (f : Heater → Heater) : (s.modHeater z f).port = s.port := rfl
@[simp] theorem State.modHeater_attn (z : Nat) (f : Heater → Heater) : (s.modHeater z f).attn = s.attn := rfl
@[simp] theorem State.modHeater_link (z : Nat) (f : Heater → Heater) : (s.modHeater z f).link = s.link := rfl
@[simp] theorem State.modHeater_freeCount (z : Nat) (f : Heater → Heater) : (s.modHeater z f).freeCount = s.freeCount := rfl
@[simp] theorem State.modHeater_pending (z : Nat) (f : Heater → Heater) : (s.modHeater z f).pending = s.pending := rfl

/-! ### modBlock -/

@[simp] theorem State.modBlock_pieces (k : Nat) (f : Block → Block) : (s.modBlock k f).pieces = s.pieces := rfl
@[simp] theorem State.modBlock_mixes (k : Nat) (f : Block → Block) : (s.modBlock k f).mixes = s.mixes := rfl
@[simp] theorem State.modBlock_beds (k : Nat) (f : Block → Block) : (s.modBlock k f).beds = s.beds := rfl
@[simp] theorem State.modBlock_zones (k : Nat) (f : Block → Block) : (s.modBlock k f).zones = s.zones := rfl
@[simp] theorem State.modBlock_heaters (k : Nat) (f : Block → Block) : (s.modBlock k f).heaters = s.heaters := rfl
@[simp] theorem State.modBlock_line (k : Nat) (f : Block → Block) : (s.modBlock k f).line = s.line := rfl
@[simp] theorem State.modBlock_blocks (k : Nat) (f : Block → Block) : (s.modBlock k f).blocks = vmod s.blocks k f := rfl
@[simp] theorem State.modBlock_bays (k : Nat) (f : Block → Block) : (s.modBlock k f).bays = s.bays := rfl
@[simp] theorem State.modBlock_tags (k : Nat) (f : Block → Block) : (s.modBlock k f).tags = s.tags := rfl
@[simp] theorem State.modBlock_counter (k : Nat) (f : Block → Block) : (s.modBlock k f).counter = s.counter := rfl
@[simp] theorem State.modBlock_orders (k : Nat) (f : Block → Block) : (s.modBlock k f).orders = s.orders := rfl
@[simp] theorem State.modBlock_programs (k : Nat) (f : Block → Block) : (s.modBlock k f).programs = s.programs := rfl
@[simp] theorem State.modBlock_cranes (k : Nat) (f : Block → Block) : (s.modBlock k f).cranes = s.cranes := rfl
@[simp] theorem State.modBlock_mode (k : Nat) (f : Block → Block) : (s.modBlock k f).mode = s.mode := rfl
@[simp] theorem State.modBlock_yardStop (k : Nat) (f : Block → Block) : (s.modBlock k f).yardStop = s.yardStop := rfl
@[simp] theorem State.modBlock_time (k : Nat) (f : Block → Block) : (s.modBlock k f).time = s.time := rfl
@[simp] theorem State.modBlock_minute (k : Nat) (f : Block → Block) : (s.modBlock k f).minute = s.minute := rfl
@[simp] theorem State.modBlock_port (k : Nat) (f : Block → Block) : (s.modBlock k f).port = s.port := rfl
@[simp] theorem State.modBlock_attn (k : Nat) (f : Block → Block) : (s.modBlock k f).attn = s.attn := rfl
@[simp] theorem State.modBlock_link (k : Nat) (f : Block → Block) : (s.modBlock k f).link = s.link := rfl
@[simp] theorem State.modBlock_freeCount (k : Nat) (f : Block → Block) : (s.modBlock k f).freeCount = s.freeCount := rfl
@[simp] theorem State.modBlock_pending (k : Nat) (f : Block → Block) : (s.modBlock k f).pending = s.pending := rfl

/-! ### modBay -/

@[simp] theorem State.modBay_pieces (b : Nat) (f : Bay → Bay) : (s.modBay b f).pieces = s.pieces := rfl
@[simp] theorem State.modBay_mixes (b : Nat) (f : Bay → Bay) : (s.modBay b f).mixes = s.mixes := rfl
@[simp] theorem State.modBay_beds (b : Nat) (f : Bay → Bay) : (s.modBay b f).beds = s.beds := rfl
@[simp] theorem State.modBay_zones (b : Nat) (f : Bay → Bay) : (s.modBay b f).zones = s.zones := rfl
@[simp] theorem State.modBay_heaters (b : Nat) (f : Bay → Bay) : (s.modBay b f).heaters = s.heaters := rfl
@[simp] theorem State.modBay_line (b : Nat) (f : Bay → Bay) : (s.modBay b f).line = s.line := rfl
@[simp] theorem State.modBay_blocks (b : Nat) (f : Bay → Bay) : (s.modBay b f).blocks = s.blocks := rfl
@[simp] theorem State.modBay_bays (b : Nat) (f : Bay → Bay) : (s.modBay b f).bays = vmod s.bays b f := rfl
@[simp] theorem State.modBay_tags (b : Nat) (f : Bay → Bay) : (s.modBay b f).tags = s.tags := rfl
@[simp] theorem State.modBay_counter (b : Nat) (f : Bay → Bay) : (s.modBay b f).counter = s.counter := rfl
@[simp] theorem State.modBay_orders (b : Nat) (f : Bay → Bay) : (s.modBay b f).orders = s.orders := rfl
@[simp] theorem State.modBay_programs (b : Nat) (f : Bay → Bay) : (s.modBay b f).programs = s.programs := rfl
@[simp] theorem State.modBay_cranes (b : Nat) (f : Bay → Bay) : (s.modBay b f).cranes = s.cranes := rfl
@[simp] theorem State.modBay_mode (b : Nat) (f : Bay → Bay) : (s.modBay b f).mode = s.mode := rfl
@[simp] theorem State.modBay_yardStop (b : Nat) (f : Bay → Bay) : (s.modBay b f).yardStop = s.yardStop := rfl
@[simp] theorem State.modBay_time (b : Nat) (f : Bay → Bay) : (s.modBay b f).time = s.time := rfl
@[simp] theorem State.modBay_minute (b : Nat) (f : Bay → Bay) : (s.modBay b f).minute = s.minute := rfl
@[simp] theorem State.modBay_port (b : Nat) (f : Bay → Bay) : (s.modBay b f).port = s.port := rfl
@[simp] theorem State.modBay_attn (b : Nat) (f : Bay → Bay) : (s.modBay b f).attn = s.attn := rfl
@[simp] theorem State.modBay_link (b : Nat) (f : Bay → Bay) : (s.modBay b f).link = s.link := rfl
@[simp] theorem State.modBay_freeCount (b : Nat) (f : Bay → Bay) : (s.modBay b f).freeCount = s.freeCount := rfl
@[simp] theorem State.modBay_pending (b : Nat) (f : Bay → Bay) : (s.modBay b f).pending = s.pending := rfl

/-! ### modProgram -/

@[simp] theorem State.modProgram_pieces (n : Nat) (f : Program → Program) : (s.modProgram n f).pieces = s.pieces := rfl
@[simp] theorem State.modProgram_mixes (n : Nat) (f : Program → Program) : (s.modProgram n f).mixes = s.mixes := rfl
@[simp] theorem State.modProgram_beds (n : Nat) (f : Program → Program) : (s.modProgram n f).beds = s.beds := rfl
@[simp] theorem State.modProgram_zones (n : Nat) (f : Program → Program) : (s.modProgram n f).zones = s.zones := rfl
@[simp] theorem State.modProgram_heaters (n : Nat) (f : Program → Program) : (s.modProgram n f).heaters = s.heaters := rfl
@[simp] theorem State.modProgram_line (n : Nat) (f : Program → Program) : (s.modProgram n f).line = s.line := rfl
@[simp] theorem State.modProgram_blocks (n : Nat) (f : Program → Program) : (s.modProgram n f).blocks = s.blocks := rfl
@[simp] theorem State.modProgram_bays (n : Nat) (f : Program → Program) : (s.modProgram n f).bays = s.bays := rfl
@[simp] theorem State.modProgram_tags (n : Nat) (f : Program → Program) : (s.modProgram n f).tags = s.tags := rfl
@[simp] theorem State.modProgram_counter (n : Nat) (f : Program → Program) : (s.modProgram n f).counter = s.counter := rfl
@[simp] theorem State.modProgram_orders (n : Nat) (f : Program → Program) : (s.modProgram n f).orders = s.orders := rfl
@[simp] theorem State.modProgram_programs (n : Nat) (f : Program → Program) : (s.modProgram n f).programs = vmod s.programs n f := rfl
@[simp] theorem State.modProgram_cranes (n : Nat) (f : Program → Program) : (s.modProgram n f).cranes = s.cranes := rfl
@[simp] theorem State.modProgram_mode (n : Nat) (f : Program → Program) : (s.modProgram n f).mode = s.mode := rfl
@[simp] theorem State.modProgram_yardStop (n : Nat) (f : Program → Program) : (s.modProgram n f).yardStop = s.yardStop := rfl
@[simp] theorem State.modProgram_time (n : Nat) (f : Program → Program) : (s.modProgram n f).time = s.time := rfl
@[simp] theorem State.modProgram_minute (n : Nat) (f : Program → Program) : (s.modProgram n f).minute = s.minute := rfl
@[simp] theorem State.modProgram_port (n : Nat) (f : Program → Program) : (s.modProgram n f).port = s.port := rfl
@[simp] theorem State.modProgram_attn (n : Nat) (f : Program → Program) : (s.modProgram n f).attn = s.attn := rfl
@[simp] theorem State.modProgram_link (n : Nat) (f : Program → Program) : (s.modProgram n f).link = s.link := rfl
@[simp] theorem State.modProgram_freeCount (n : Nat) (f : Program → Program) : (s.modProgram n f).freeCount = s.freeCount := rfl
@[simp] theorem State.modProgram_pending (n : Nat) (f : Program → Program) : (s.modProgram n f).pending = s.pending := rfl

/-! ### modCrane -/

@[simp] theorem State.modCrane_pieces (c : Nat) (f : Crane → Crane) : (s.modCrane c f).pieces = s.pieces := rfl
@[simp] theorem State.modCrane_mixes (c : Nat) (f : Crane → Crane) : (s.modCrane c f).mixes = s.mixes := rfl
@[simp] theorem State.modCrane_beds (c : Nat) (f : Crane → Crane) : (s.modCrane c f).beds = s.beds := rfl
@[simp] theorem State.modCrane_zones (c : Nat) (f : Crane → Crane) : (s.modCrane c f).zones = s.zones := rfl
@[simp] theorem State.modCrane_heaters (c : Nat) (f : Crane → Crane) : (s.modCrane c f).heaters = s.heaters := rfl
@[simp] theorem State.modCrane_line (c : Nat) (f : Crane → Crane) : (s.modCrane c f).line = s.line := rfl
@[simp] theorem State.modCrane_blocks (c : Nat) (f : Crane → Crane) : (s.modCrane c f).blocks = s.blocks := rfl
@[simp] theorem State.modCrane_bays (c : Nat) (f : Crane → Crane) : (s.modCrane c f).bays = s.bays := rfl
@[simp] theorem State.modCrane_tags (c : Nat) (f : Crane → Crane) : (s.modCrane c f).tags = s.tags := rfl
@[simp] theorem State.modCrane_counter (c : Nat) (f : Crane → Crane) : (s.modCrane c f).counter = s.counter := rfl
@[simp] theorem State.modCrane_orders (c : Nat) (f : Crane → Crane) : (s.modCrane c f).orders = s.orders := rfl
@[simp] theorem State.modCrane_programs (c : Nat) (f : Crane → Crane) : (s.modCrane c f).programs = s.programs := rfl
@[simp] theorem State.modCrane_cranes (c : Nat) (f : Crane → Crane) : (s.modCrane c f).cranes = vmod s.cranes c f := rfl
@[simp] theorem State.modCrane_mode (c : Nat) (f : Crane → Crane) : (s.modCrane c f).mode = s.mode := rfl
@[simp] theorem State.modCrane_yardStop (c : Nat) (f : Crane → Crane) : (s.modCrane c f).yardStop = s.yardStop := rfl
@[simp] theorem State.modCrane_time (c : Nat) (f : Crane → Crane) : (s.modCrane c f).time = s.time := rfl
@[simp] theorem State.modCrane_minute (c : Nat) (f : Crane → Crane) : (s.modCrane c f).minute = s.minute := rfl
@[simp] theorem State.modCrane_port (c : Nat) (f : Crane → Crane) : (s.modCrane c f).port = s.port := rfl
@[simp] theorem State.modCrane_attn (c : Nat) (f : Crane → Crane) : (s.modCrane c f).attn = s.attn := rfl
@[simp] theorem State.modCrane_link (c : Nat) (f : Crane → Crane) : (s.modCrane c f).link = s.link := rfl
@[simp] theorem State.modCrane_freeCount (c : Nat) (f : Crane → Crane) : (s.modCrane c f).freeCount = s.freeCount := rfl
@[simp] theorem State.modCrane_pending (c : Nat) (f : Crane → Crane) : (s.modCrane c f).pending = s.pending := rfl

/-! ### setEntry -/

@[simp] theorem State.setEntry_pieces (b p : Nat) (e : Entry) : (s.setEntry b p e).pieces = s.pieces := rfl
@[simp] theorem State.setEntry_mixes (b p : Nat) (e : Entry) : (s.setEntry b p e).mixes = s.mixes := rfl
@[simp] theorem State.setEntry_beds (b p : Nat) (e : Entry) : (s.setEntry b p e).beds = vmod s.beds b fun r => { r with entries := vset r.entries p e } := rfl
@[simp] theorem State.setEntry_zones (b p : Nat) (e : Entry) : (s.setEntry b p e).zones = s.zones := rfl
@[simp] theorem State.setEntry_heaters (b p : Nat) (e : Entry) : (s.setEntry b p e).heaters = s.heaters := rfl
@[simp] theorem State.setEntry_line (b p : Nat) (e : Entry) : (s.setEntry b p e).line = s.line := rfl
@[simp] theorem State.setEntry_blocks (b p : Nat) (e : Entry) : (s.setEntry b p e).blocks = s.blocks := rfl
@[simp] theorem State.setEntry_bays (b p : Nat) (e : Entry) : (s.setEntry b p e).bays = s.bays := rfl
@[simp] theorem State.setEntry_tags (b p : Nat) (e : Entry) : (s.setEntry b p e).tags = s.tags := rfl
@[simp] theorem State.setEntry_counter (b p : Nat) (e : Entry) : (s.setEntry b p e).counter = s.counter := rfl
@[simp] theorem State.setEntry_orders (b p : Nat) (e : Entry) : (s.setEntry b p e).orders = s.orders := rfl
@[simp] theorem State.setEntry_programs (b p : Nat) (e : Entry) : (s.setEntry b p e).programs = s.programs := rfl
@[simp] theorem State.setEntry_cranes (b p : Nat) (e : Entry) : (s.setEntry b p e).cranes = s.cranes := rfl
@[simp] theorem State.setEntry_mode (b p : Nat) (e : Entry) : (s.setEntry b p e).mode = s.mode := rfl
@[simp] theorem State.setEntry_yardStop (b p : Nat) (e : Entry) : (s.setEntry b p e).yardStop = s.yardStop := rfl
@[simp] theorem State.setEntry_time (b p : Nat) (e : Entry) : (s.setEntry b p e).time = s.time := rfl
@[simp] theorem State.setEntry_minute (b p : Nat) (e : Entry) : (s.setEntry b p e).minute = s.minute := rfl
@[simp] theorem State.setEntry_port (b p : Nat) (e : Entry) : (s.setEntry b p e).port = s.port := rfl
@[simp] theorem State.setEntry_attn (b p : Nat) (e : Entry) : (s.setEntry b p e).attn = s.attn := rfl
@[simp] theorem State.setEntry_link (b p : Nat) (e : Entry) : (s.setEntry b p e).link = s.link := rfl
@[simp] theorem State.setEntry_freeCount (b p : Nat) (e : Entry) : (s.setEntry b p e).freeCount = s.freeCount := rfl
@[simp] theorem State.setEntry_pending (b p : Nat) (e : Entry) : (s.setEntry b p e).pending = s.pending := rfl

/-! ### noteBed -/

@[simp] theorem State.noteBed_pieces (b : Nat) : (s.noteBed b).pieces = s.pieces := rfl
@[simp] theorem State.noteBed_mixes (b : Nat) : (s.noteBed b).mixes = s.mixes := rfl
@[simp] theorem State.noteBed_beds (b : Nat) : (s.noteBed b).beds = s.beds := rfl
@[simp] theorem State.noteBed_zones (b : Nat) : (s.noteBed b).zones = s.zones := rfl
@[simp] theorem State.noteBed_heaters (b : Nat) : (s.noteBed b).heaters = s.heaters := rfl
@[simp] theorem State.noteBed_line (b : Nat) : (s.noteBed b).line = s.line := rfl
@[simp] theorem State.noteBed_blocks (b : Nat) : (s.noteBed b).blocks = s.blocks := rfl
@[simp] theorem State.noteBed_bays (b : Nat) : (s.noteBed b).bays = s.bays := rfl
@[simp] theorem State.noteBed_tags (b : Nat) : (s.noteBed b).tags = s.tags := rfl
@[simp] theorem State.noteBed_counter (b : Nat) : (s.noteBed b).counter = s.counter := rfl
@[simp] theorem State.noteBed_orders (b : Nat) : (s.noteBed b).orders = s.orders := rfl
@[simp] theorem State.noteBed_programs (b : Nat) : (s.noteBed b).programs = s.programs := rfl
@[simp] theorem State.noteBed_cranes (b : Nat) : (s.noteBed b).cranes = s.cranes := rfl
@[simp] theorem State.noteBed_mode (b : Nat) : (s.noteBed b).mode = s.mode := rfl
@[simp] theorem State.noteBed_yardStop (b : Nat) : (s.noteBed b).yardStop = s.yardStop := rfl
@[simp] theorem State.noteBed_time (b : Nat) : (s.noteBed b).time = s.time := rfl
@[simp] theorem State.noteBed_minute (b : Nat) : (s.noteBed b).minute = s.minute := rfl
@[simp] theorem State.noteBed_port (b : Nat) : (s.noteBed b).port = s.port := rfl
@[simp] theorem State.noteBed_attn (b : Nat) : (s.noteBed b).attn = { s.attn with beds := sinsert b s.attn.beds } := rfl
@[simp] theorem State.noteBed_link (b : Nat) : (s.noteBed b).link = s.link := rfl
@[simp] theorem State.noteBed_freeCount (b : Nat) : (s.noteBed b).freeCount = s.freeCount := rfl
@[simp] theorem State.noteBed_pending (b : Nat) : (s.noteBed b).pending = s.pending := rfl

/-! ### noteZone -/

@[simp] theorem State.noteZone_pieces (z : Nat) : (s.noteZone z).pieces = s.pieces := rfl
@[simp] theorem State.noteZone_mixes (z : Nat) : (s.noteZone z).mixes = s.mixes := rfl
@[simp] theorem State.noteZone_beds (z : Nat) : (s.noteZone z).beds = s.beds := rfl
@[simp] theorem State.noteZone_zones (z : Nat) : (s.noteZone z).zones = s.zones := rfl
@[simp] theorem State.noteZone_heaters (z : Nat) : (s.noteZone z).heaters = s.heaters := rfl
@[simp] theorem State.noteZone_line (z : Nat) : (s.noteZone z).line = s.line := rfl
@[simp] theorem State.noteZone_blocks (z : Nat) : (s.noteZone z).blocks = s.blocks := rfl
@[simp] theorem State.noteZone_bays (z : Nat) : (s.noteZone z).bays = s.bays := rfl
@[simp] theorem State.noteZone_tags (z : Nat) : (s.noteZone z).tags = s.tags := rfl
@[simp] theorem State.noteZone_counter (z : Nat) : (s.noteZone z).counter = s.counter := rfl
@[simp] theorem State.noteZone_orders (z : Nat) : (s.noteZone z).orders = s.orders := rfl
@[simp] theorem State.noteZone_programs (z : Nat) : (s.noteZone z).programs = s.programs := rfl
@[simp] theorem State.noteZone_cranes (z : Nat) : (s.noteZone z).cranes = s.cranes := rfl
@[simp] theorem State.noteZone_mode (z : Nat) : (s.noteZone z).mode = s.mode := rfl
@[simp] theorem State.noteZone_yardStop (z : Nat) : (s.noteZone z).yardStop = s.yardStop := rfl
@[simp] theorem State.noteZone_time (z : Nat) : (s.noteZone z).time = s.time := rfl
@[simp] theorem State.noteZone_minute (z : Nat) : (s.noteZone z).minute = s.minute := rfl
@[simp] theorem State.noteZone_port (z : Nat) : (s.noteZone z).port = s.port := rfl
@[simp] theorem State.noteZone_attn (z : Nat) : (s.noteZone z).attn = { s.attn with zones := sinsert z s.attn.zones } := rfl
@[simp] theorem State.noteZone_link (z : Nat) : (s.noteZone z).link = s.link := rfl
@[simp] theorem State.noteZone_freeCount (z : Nat) : (s.noteZone z).freeCount = s.freeCount := rfl
@[simp] theorem State.noteZone_pending (z : Nat) : (s.noteZone z).pending = s.pending := rfl

/-! ### notePiece -/

@[simp] theorem State.notePiece_pieces (id : Nat) : (s.notePiece id).pieces = s.pieces := rfl
@[simp] theorem State.notePiece_mixes (id : Nat) : (s.notePiece id).mixes = s.mixes := rfl
@[simp] theorem State.notePiece_beds (id : Nat) : (s.notePiece id).beds = s.beds := rfl
@[simp] theorem State.notePiece_zones (id : Nat) : (s.notePiece id).zones = s.zones := rfl
@[simp] theorem State.notePiece_heaters (id : Nat) : (s.notePiece id).heaters = s.heaters := rfl
@[simp] theorem State.notePiece_line (id : Nat) : (s.notePiece id).line = s.line := rfl
@[simp] theorem State.notePiece_blocks (id : Nat) : (s.notePiece id).blocks = s.blocks := rfl
@[simp] theorem State.notePiece_bays (id : Nat) : (s.notePiece id).bays = s.bays := rfl
@[simp] theorem State.notePiece_tags (id : Nat) : (s.notePiece id).tags = s.tags := rfl
@[simp] theorem State.notePiece_counter (id : Nat) : (s.notePiece id).counter = s.counter := rfl
@[simp] theorem State.notePiece_orders (id : Nat) : (s.notePiece id).orders = s.orders := rfl
@[simp] theorem State.notePiece_programs (id : Nat) : (s.notePiece id).programs = s.programs := rfl
@[simp] theorem State.notePiece_cranes (id : Nat) : (s.notePiece id).cranes = s.cranes := rfl
@[simp] theorem State.notePiece_mode (id : Nat) : (s.notePiece id).mode = s.mode := rfl
@[simp] theorem State.notePiece_yardStop (id : Nat) : (s.notePiece id).yardStop = s.yardStop := rfl
@[simp] theorem State.notePiece_time (id : Nat) : (s.notePiece id).time = s.time := rfl
@[simp] theorem State.notePiece_minute (id : Nat) : (s.notePiece id).minute = s.minute := rfl
@[simp] theorem State.notePiece_port (id : Nat) : (s.notePiece id).port = s.port := rfl
@[simp] theorem State.notePiece_attn (id : Nat) : (s.notePiece id).attn = { s.attn with pieces := sinsert id s.attn.pieces } := rfl
@[simp] theorem State.notePiece_link (id : Nat) : (s.notePiece id).link = s.link := rfl
@[simp] theorem State.notePiece_freeCount (id : Nat) : (s.notePiece id).freeCount = s.freeCount := rfl
@[simp] theorem State.notePiece_pending (id : Nat) : (s.notePiece id).pending = s.pending := rfl

/-! ### noteOrder -/

@[simp] theorem State.noteOrder_pieces (h : Handle) : (s.noteOrder h).pieces = s.pieces := rfl
@[simp] theorem State.noteOrder_mixes (h : Handle) : (s.noteOrder h).mixes = s.mixes := rfl
@[simp] theorem State.noteOrder_beds (h : Handle) : (s.noteOrder h).beds = s.beds := rfl
@[simp] theorem State.noteOrder_zones (h : Handle) : (s.noteOrder h).zones = s.zones := rfl
@[simp] theorem State.noteOrder_heaters (h : Handle) : (s.noteOrder h).heaters = s.heaters := rfl
@[simp] theorem State.noteOrder_line (h : Handle) : (s.noteOrder h).line = s.line := rfl
@[simp] theorem State.noteOrder_blocks (h : Handle) : (s.noteOrder h).blocks = s.blocks := rfl
@[simp] theorem State.noteOrder_bays (h : Handle) : (s.noteOrder h).bays = s.bays := rfl
@[simp] theorem State.noteOrder_tags (h : Handle) : (s.noteOrder h).tags = s.tags := rfl
@[simp] theorem State.noteOrder_counter (h : Handle) : (s.noteOrder h).counter = s.counter := rfl
@[simp] theorem State.noteOrder_orders (h : Handle) : (s.noteOrder h).orders = s.orders := rfl
@[simp] theorem State.noteOrder_programs (h : Handle) : (s.noteOrder h).programs = s.programs := rfl
@[simp] theorem State.noteOrder_cranes (h : Handle) : (s.noteOrder h).cranes = s.cranes := rfl
@[simp] theorem State.noteOrder_mode (h : Handle) : (s.noteOrder h).mode = s.mode := rfl
@[simp] theorem State.noteOrder_yardStop (h : Handle) : (s.noteOrder h).yardStop = s.yardStop := rfl
@[simp] theorem State.noteOrder_time (h : Handle) : (s.noteOrder h).time = s.time := rfl
@[simp] theorem State.noteOrder_minute (h : Handle) : (s.noteOrder h).minute = s.minute := rfl
@[simp] theorem State.noteOrder_port (h : Handle) : (s.noteOrder h).port = s.port := rfl
@[simp] theorem State.noteOrder_attn (h : Handle) : (s.noteOrder h).attn = { s.attn with orders := tput s.attn.orders h.slot h.tag } := rfl
@[simp] theorem State.noteOrder_link (h : Handle) : (s.noteOrder h).link = s.link := rfl
@[simp] theorem State.noteOrder_freeCount (h : Handle) : (s.noteOrder h).freeCount = s.freeCount := rfl
@[simp] theorem State.noteOrder_pending (h : Handle) : (s.noteOrder h).pending = s.pending := rfl

/-! ### noteProgram -/

@[simp] theorem State.noteProgram_pieces (n : Nat) : (s.noteProgram n).pieces = s.pieces := rfl
@[simp] theorem State.noteProgram_mixes (n : Nat) : (s.noteProgram n).mixes = s.mixes := rfl
@[simp] theorem State.noteProgram_beds (n : Nat) : (s.noteProgram n).beds = s.beds := rfl
@[simp] theorem State.noteProgram_zones (n : Nat) : (s.noteProgram n).zones = s.zones := rfl
@[simp] theorem State.noteProgram_heaters (n : Nat) : (s.noteProgram n).heaters = s.heaters := rfl
@[simp] theorem State.noteProgram_line (n : Nat) : (s.noteProgram n).line = s.line := rfl
@[simp] theorem State.noteProgram_blocks (n : Nat) : (s.noteProgram n).blocks = s.blocks := rfl
@[simp] theorem State.noteProgram_bays (n : Nat) : (s.noteProgram n).bays = s.bays := rfl
@[simp] theorem State.noteProgram_tags (n : Nat) : (s.noteProgram n).tags = s.tags := rfl
@[simp] theorem State.noteProgram_counter (n : Nat) : (s.noteProgram n).counter = s.counter := rfl
@[simp] theorem State.noteProgram_orders (n : Nat) : (s.noteProgram n).orders = s.orders := rfl
@[simp] theorem State.noteProgram_programs (n : Nat) : (s.noteProgram n).programs = s.programs := rfl
@[simp] theorem State.noteProgram_cranes (n : Nat) : (s.noteProgram n).cranes = s.cranes := rfl
@[simp] theorem State.noteProgram_mode (n : Nat) : (s.noteProgram n).mode = s.mode := rfl
@[simp] theorem State.noteProgram_yardStop (n : Nat) : (s.noteProgram n).yardStop = s.yardStop := rfl
@[simp] theorem State.noteProgram_time (n : Nat) : (s.noteProgram n).time = s.time := rfl
@[simp] theorem State.noteProgram_minute (n : Nat) : (s.noteProgram n).minute = s.minute := rfl
@[simp] theorem State.noteProgram_port (n : Nat) : (s.noteProgram n).port = s.port := rfl
@[simp] theorem State.noteProgram_attn (n : Nat) : (s.noteProgram n).attn = { s.attn with programs := sinsert n s.attn.programs } := rfl
@[simp] theorem State.noteProgram_link (n : Nat) : (s.noteProgram n).link = s.link := rfl
@[simp] theorem State.noteProgram_freeCount (n : Nat) : (s.noteProgram n).freeCount = s.freeCount := rfl
@[simp] theorem State.noteProgram_pending (n : Nat) : (s.noteProgram n).pending = s.pending := rfl

/-! ### noteCrane -/

@[simp] theorem State.noteCrane_pieces (c : Nat) : (s.noteCrane c).pieces = s.pieces := rfl
@[simp] theorem State.noteCrane_mixes (c : Nat) : (s.noteCrane c).mixes = s.mixes := rfl
@[simp] theorem State.noteCrane_beds (c : Nat) : (s.noteCrane c).beds = s.beds := rfl
@[simp] theorem State.noteCrane_zones (c : Nat) : (s.noteCrane c).zones = s.zones := rfl
@[simp] theorem State.noteCrane_heaters (c : Nat) : (s.noteCrane c).heaters = s.heaters := rfl
@[simp] theorem State.noteCrane_line (c : Nat) : (s.noteCrane c).line = s.line := rfl
@[simp] theorem State.noteCrane_blocks (c : Nat) : (s.noteCrane c).blocks = s.blocks := rfl
@[simp] theorem State.noteCrane_bays (c : Nat) : (s.noteCrane c).bays = s.bays := rfl
@[simp] theorem State.noteCrane_tags (c : Nat) : (s.noteCrane c).tags = s.tags := rfl
@[simp] theorem State.noteCrane_counter (c : Nat) : (s.noteCrane c).counter = s.counter := rfl
@[simp] theorem State.noteCrane_orders (c : Nat) : (s.noteCrane c).orders = s.orders := rfl
@[simp] theorem State.noteCrane_programs (c : Nat) : (s.noteCrane c).programs = s.programs := rfl
@[simp] theorem State.noteCrane_cranes (c : Nat) : (s.noteCrane c).cranes = s.cranes := rfl
@[simp] theorem State.noteCrane_mode (c : Nat) : (s.noteCrane c).mode = s.mode := rfl
@[simp] theorem State.noteCrane_yardStop (c : Nat) : (s.noteCrane c).yardStop = s.yardStop := rfl
@[simp] theorem State.noteCrane_time (c : Nat) : (s.noteCrane c).time = s.time := rfl
@[simp] theorem State.noteCrane_minute (c : Nat) : (s.noteCrane c).minute = s.minute := rfl
@[simp] theorem State.noteCrane_port (c : Nat) : (s.noteCrane c).port = s.port := rfl
@[simp] theorem State.noteCrane_attn (c : Nat) : (s.noteCrane c).attn = { s.attn with cranes := sinsert c s.attn.cranes } := rfl
@[simp] theorem State.noteCrane_link (c : Nat) : (s.noteCrane c).link = s.link := rfl
@[simp] theorem State.noteCrane_freeCount (c : Nat) : (s.noteCrane c).freeCount = s.freeCount := rfl
@[simp] theorem State.noteCrane_pending (c : Nat) : (s.noteCrane c).pending = s.pending := rfl

/-! ### modLink -/

@[simp] theorem State.modLink_pieces (f : Link → Link) : (s.modLink f).pieces = s.pieces := rfl
@[simp] theorem State.modLink_mixes (f : Link → Link) : (s.modLink f).mixes = s.mixes := rfl
@[simp] theorem State.modLink_beds (f : Link → Link) : (s.modLink f).beds = s.beds := rfl
@[simp] theorem State.modLink_zones (f : Link → Link) : (s.modLink f).zones = s.zones := rfl
@[simp] theorem State.modLink_heaters (f : Link → Link) : (s.modLink f).heaters = s.heaters := rfl
@[simp] theorem State.modLink_line (f : Link → Link) : (s.modLink f).line = s.line := rfl
@[simp] theorem State.modLink_blocks (f : Link → Link) : (s.modLink f).blocks = s.blocks := rfl
@[simp] theorem State.modLink_bays (f : Link → Link) : (s.modLink f).bays = s.bays := rfl
@[simp] theorem State.modLink_tags (f : Link → Link) : (s.modLink f).tags = s.tags := rfl
@[simp] theorem State.modLink_counter (f : Link → Link) : (s.modLink f).counter = s.counter := rfl
@[simp] theorem State.modLink_orders (f : Link → Link) : (s.modLink f).orders = s.orders := rfl
@[simp] theorem State.modLink_programs (f : Link → Link) : (s.modLink f).programs = s.programs := rfl
@[simp] theorem State.modLink_cranes (f : Link → Link) : (s.modLink f).cranes = s.cranes := rfl
@[simp] theorem State.modLink_mode (f : Link → Link) : (s.modLink f).mode = s.mode := rfl
@[simp] theorem State.modLink_yardStop (f : Link → Link) : (s.modLink f).yardStop = s.yardStop := rfl
@[simp] theorem State.modLink_time (f : Link → Link) : (s.modLink f).time = s.time := rfl
@[simp] theorem State.modLink_minute (f : Link → Link) : (s.modLink f).minute = s.minute := rfl
@[simp] theorem State.modLink_port (f : Link → Link) : (s.modLink f).port = s.port := rfl
@[simp] theorem State.modLink_attn (f : Link → Link) : (s.modLink f).attn = s.attn := rfl
@[simp] theorem State.modLink_link (f : Link → Link) : (s.modLink f).link = f s.link := rfl
@[simp] theorem State.modLink_freeCount (f : Link → Link) : (s.modLink f).freeCount = s.freeCount := rfl
@[simp] theorem State.modLink_pending (f : Link → Link) : (s.modLink f).pending = s.pending := rfl

/-! ### modPort -/

@[simp] theorem State.modPort_pieces (f : Port → Port) : (s.modPort f).pieces = s.pieces := rfl
@[simp] theorem State.modPort_mixes (f : Port → Port) : (s.modPort f).mixes = s.mixes := rfl
@[simp] theorem State.modPort_beds (f : Port → Port) : (s.modPort f).beds = s.beds := rfl
@[simp] theorem State.modPort_zones (f : Port → Port) : (s.modPort f).zones = s.zones := rfl
@[simp] theorem State.modPort_heaters (f : Port → Port) : (s.modPort f).heaters = s.heaters := rfl
@[simp] theorem State.modPort_line (f : Port → Port) : (s.modPort f).line = s.line := rfl
@[simp] theorem State.modPort_blocks (f : Port → Port) : (s.modPort f).blocks = s.blocks := rfl
@[simp] theorem State.modPort_bays (f : Port → Port) : (s.modPort f).bays = s.bays := rfl
@[simp] theorem State.modPort_tags (f : Port → Port) : (s.modPort f).tags = s.tags := rfl
@[simp] theorem State.modPort_counter (f : Port → Port) : (s.modPort f).counter = s.counter := rfl
@[simp] theorem State.modPort_orders (f : Port → Port) : (s.modPort f).orders = s.orders := rfl
@[simp] theorem State.modPort_programs (f : Port → Port) : (s.modPort f).programs = s.programs := rfl
@[simp] theorem State.modPort_cranes (f : Port → Port) : (s.modPort f).cranes = s.cranes := rfl
@[simp] theorem State.modPort_mode (f : Port → Port) : (s.modPort f).mode = s.mode := rfl
@[simp] theorem State.modPort_yardStop (f : Port → Port) : (s.modPort f).yardStop = s.yardStop := rfl
@[simp] theorem State.modPort_time (f : Port → Port) : (s.modPort f).time = s.time := rfl
@[simp] theorem State.modPort_minute (f : Port → Port) : (s.modPort f).minute = s.minute := rfl
@[simp] theorem State.modPort_port (f : Port → Port) : (s.modPort f).port = f s.port := rfl
@[simp] theorem State.modPort_attn (f : Port → Port) : (s.modPort f).attn = s.attn := rfl
@[simp] theorem State.modPort_link (f : Port → Port) : (s.modPort f).link = s.link := rfl
@[simp] theorem State.modPort_freeCount (f : Port → Port) : (s.modPort f).freeCount = s.freeCount := rfl
@[simp] theorem State.modPort_pending (f : Port → Port) : (s.modPort f).pending = s.pending := rfl

/-! ### withPending -/

@[simp] theorem State.withPending_pieces (q : List Instr) : (s.withPending q).pieces = s.pieces := rfl
@[simp] theorem State.withPending_mixes (q : List Instr) : (s.withPending q).mixes = s.mixes := rfl
@[simp] theorem State.withPending_beds (q : List Instr) : (s.withPending q).beds = s.beds := rfl
@[simp] theorem State.withPending_zones (q : List Instr) : (s.withPending q).zones = s.zones := rfl
@[simp] theorem State.withPending_heaters (q : List Instr) : (s.withPending q).heaters = s.heaters := rfl
@[simp] theorem State.withPending_line (q : List Instr) : (s.withPending q).line = s.line := rfl
@[simp] theorem State.withPending_blocks (q : List Instr) : (s.withPending q).blocks = s.blocks := rfl
@[simp] theorem State.withPending_bays (q : List Instr) : (s.withPending q).bays = s.bays := rfl
@[simp] theorem State.withPending_tags (q : List Instr) : (s.withPending q).tags = s.tags := rfl
@[simp] theorem State.withPending_counter (q : List Instr) : (s.withPending q).counter = s.counter := rfl
@[simp] theorem State.withPending_orders (q : List Instr) : (s.withPending q).orders = s.orders := rfl
@[simp] theorem State.withPending_programs (q : List Instr) : (s.withPending q).programs = s.programs := rfl
@[simp] theorem State.withPending_cranes (q : List Instr) : (s.withPending q).cranes = s.cranes := rfl
@[simp] theorem State.withPending_mode (q : List Instr) : (s.withPending q).mode = s.mode := rfl
@[simp] theorem State.withPending_yardStop (q : List Instr) : (s.withPending q).yardStop = s.yardStop := rfl
@[simp] theorem State.withPending_time (q : List Instr) : (s.withPending q).time = s.time := rfl
@[simp] theorem State.withPending_minute (q : List Instr) : (s.withPending q).minute = s.minute := rfl
@[simp] theorem State.withPending_port (q : List Instr) : (s.withPending q).port = s.port := rfl
@[simp] theorem State.withPending_attn (q : List Instr) : (s.withPending q).attn = s.attn := rfl
@[simp] theorem State.withPending_link (q : List Instr) : (s.withPending q).link = s.link := rfl
@[simp] theorem State.withPending_freeCount (q : List Instr) : (s.withPending q).freeCount = s.freeCount := rfl
@[simp] theorem State.withPending_pending (q : List Instr) : (s.withPending q).pending = q := rfl

/-! ### handLine -/

@[simp] theorem State.handLine_pieces : (s.handLine).pieces = s.pieces := rfl
@[simp] theorem State.handLine_mixes : (s.handLine).mixes = s.mixes := rfl
@[simp] theorem State.handLine_beds : (s.handLine).beds = s.beds := rfl
@[simp] theorem State.handLine_zones : (s.handLine).zones = s.zones := rfl
@[simp] theorem State.handLine_heaters : (s.handLine).heaters = s.heaters := rfl
@[simp] theorem State.handLine_line : (s.handLine).line = s.line.between (s.heaters.map (·.output)) := rfl
@[simp] theorem State.handLine_blocks : (s.handLine).blocks = s.blocks := rfl
@[simp] theorem State.handLine_bays : (s.handLine).bays = s.bays := rfl
@[simp] theorem State.handLine_tags : (s.handLine).tags = s.tags := rfl
@[simp] theorem State.handLine_counter : (s.handLine).counter = s.counter := rfl
@[simp] theorem State.handLine_orders : (s.handLine).orders = s.orders := rfl
@[simp] theorem State.handLine_programs : (s.handLine).programs = s.programs := rfl
@[simp] theorem State.handLine_cranes : (s.handLine).cranes = s.cranes := rfl
@[simp] theorem State.handLine_mode : (s.handLine).mode = s.mode := rfl
@[simp] theorem State.handLine_yardStop : (s.handLine).yardStop = s.yardStop := rfl
@[simp] theorem State.handLine_time : (s.handLine).time = s.time := rfl
@[simp] theorem State.handLine_minute : (s.handLine).minute = s.minute := rfl
@[simp] theorem State.handLine_port : (s.handLine).port = s.port := rfl
@[simp] theorem State.handLine_attn : (s.handLine).attn = s.attn := rfl
@[simp] theorem State.handLine_link : (s.handLine).link = s.link := rfl
@[simp] theorem State.handLine_freeCount : (s.handLine).freeCount = s.freeCount := rfl
@[simp] theorem State.handLine_pending : (s.handLine).pending = s.pending := rfl

/-! ### handSlot -/

@[simp] theorem State.handSlot_pieces : (s.handSlot).pieces = s.pieces := rfl
@[simp] theorem State.handSlot_mixes : (s.handSlot).mixes = s.mixes := rfl
@[simp] theorem State.handSlot_beds : (s.handSlot).beds = s.beds := rfl
@[simp] theorem State.handSlot_zones : (s.handSlot).zones = s.zones := rfl
@[simp] theorem State.handSlot_heaters : (s.handSlot).heaters = s.heaters := rfl
@[simp] theorem State.handSlot_line : (s.handSlot).line = s.line.slot (s.heaters.map (·.output)) := rfl
@[simp] theorem State.handSlot_blocks : (s.handSlot).blocks = s.blocks := rfl
@[simp] theorem State.handSlot_bays : (s.handSlot).bays = s.bays := rfl
@[simp] theorem State.handSlot_tags : (s.handSlot).tags = s.tags := rfl
@[simp] theorem State.handSlot_counter : (s.handSlot).counter = s.counter := rfl
@[simp] theorem State.handSlot_orders : (s.handSlot).orders = s.orders := rfl
@[simp] theorem State.handSlot_programs : (s.handSlot).programs = s.programs := rfl
@[simp] theorem State.handSlot_cranes : (s.handSlot).cranes = s.cranes := rfl
@[simp] theorem State.handSlot_mode : (s.handSlot).mode = s.mode := rfl
@[simp] theorem State.handSlot_yardStop : (s.handSlot).yardStop = s.yardStop := rfl
@[simp] theorem State.handSlot_time : (s.handSlot).time = s.time := rfl
@[simp] theorem State.handSlot_minute : (s.handSlot).minute = s.minute := rfl
@[simp] theorem State.handSlot_port : (s.handSlot).port = s.port := rfl
@[simp] theorem State.handSlot_attn : (s.handSlot).attn = s.attn := rfl
@[simp] theorem State.handSlot_link : (s.handSlot).link = s.link := rfl
@[simp] theorem State.handSlot_freeCount : (s.handSlot).freeCount = s.freeCount := rfl
@[simp] theorem State.handSlot_pending : (s.handSlot).pending = s.pending := rfl

/-! ### dropOrder -/

@[simp] theorem State.dropOrder_pieces (slot : Nat) : (s.dropOrder slot).pieces = s.pieces := rfl
@[simp] theorem State.dropOrder_mixes (slot : Nat) : (s.dropOrder slot).mixes = s.mixes := rfl
@[simp] theorem State.dropOrder_beds (slot : Nat) : (s.dropOrder slot).beds = s.beds := rfl
@[simp] theorem State.dropOrder_zones (slot : Nat) : (s.dropOrder slot).zones = s.zones := rfl
@[simp] theorem State.dropOrder_heaters (slot : Nat) : (s.dropOrder slot).heaters = s.heaters := rfl
@[simp] theorem State.dropOrder_line (slot : Nat) : (s.dropOrder slot).line = s.line := rfl
@[simp] theorem State.dropOrder_blocks (slot : Nat) : (s.dropOrder slot).blocks = s.blocks := rfl
@[simp] theorem State.dropOrder_bays (slot : Nat) : (s.dropOrder slot).bays = s.bays := rfl
@[simp] theorem State.dropOrder_tags (slot : Nat) : (s.dropOrder slot).tags = s.tags := rfl
@[simp] theorem State.dropOrder_counter (slot : Nat) : (s.dropOrder slot).counter = s.counter := rfl
@[simp] theorem State.dropOrder_orders (slot : Nat) : (s.dropOrder slot).orders = tdel s.orders slot := rfl
@[simp] theorem State.dropOrder_programs (slot : Nat) : (s.dropOrder slot).programs = s.programs := rfl
@[simp] theorem State.dropOrder_cranes (slot : Nat) : (s.dropOrder slot).cranes = s.cranes := rfl
@[simp] theorem State.dropOrder_mode (slot : Nat) : (s.dropOrder slot).mode = s.mode := rfl
@[simp] theorem State.dropOrder_yardStop (slot : Nat) : (s.dropOrder slot).yardStop = s.yardStop := rfl
@[simp] theorem State.dropOrder_time (slot : Nat) : (s.dropOrder slot).time = s.time := rfl
@[simp] theorem State.dropOrder_minute (slot : Nat) : (s.dropOrder slot).minute = s.minute := rfl
@[simp] theorem State.dropOrder_port (slot : Nat) : (s.dropOrder slot).port = s.port := rfl
@[simp] theorem State.dropOrder_attn (slot : Nat) : (s.dropOrder slot).attn = s.attn := rfl
@[simp] theorem State.dropOrder_link (slot : Nat) : (s.dropOrder slot).link = s.link := rfl
@[simp] theorem State.dropOrder_freeCount (slot : Nat) : (s.dropOrder slot).freeCount = s.freeCount := rfl
@[simp] theorem State.dropOrder_pending (slot : Nat) : (s.dropOrder slot).pending = s.pending := rfl

end Sys2Proof.Machine
end

