-- ==== Sys2Proof/Laws/Table.lean ====
section
/-! SUPPORT. The laws of the two shapes of table: what is read after a write or a removal, and that every operation keeps
the canonical form (strictly rising keys). -/

namespace Sys2Proof.Machine

variable {α : Type}

/-! ### Reading after writing -/

@[simp] theorem tget_tput_self (t : Table α) (k : Nat) (v : α) : tget (tput t k v) k = some v := by
  induction t with
  | nil => simp [tput, tget]
  | cons e rest ih =>
    obtain ⟨j, u⟩ := e
    simp only [tput]
    split
    · simp [tget]
    · split
      · simp [tget]
      · rename_i h; simp [tget, h, ih]

theorem tget_tput_ne (t : Table α) {j k : Nat} (v : α) (h : j ≠ k) : tget (tput t k v) j = tget t j := by
  induction t with
  | nil => simp [tput, tget, Ne.symm h]
  | cons e rest ih =>
    obtain ⟨i, u⟩ := e
    simp only [tput]
    split
    · simp [tget, Ne.symm h]
    · split
      · rename_i h'; subst h'; simp [tget, Ne.symm h]
      · simp [tget, ih]

theorem tget_tput (t : Table α) (j k : Nat) (v : α) :
    tget (tput t k v) j = if j = k then some v else tget t j := by
  split
  · rename_i h; rw [h, tget_tput_self]
  · rename_i h; exact tget_tput_ne t v h

@[simp] theorem tget_tdel_self (t : Table α) (k : Nat) : tget (tdel t k) k = none := by
  induction t with
  | nil => rfl
  | cons e rest ih => obtain ⟨j, u⟩ := e; by_cases h : j = k <;> simp [tdel, tget, h, ih]

theorem tget_tdel_ne (t : Table α) {j k : Nat} (h : j ≠ k) : tget (tdel t k) j = tget t j := by
  induction t with
  | nil => rfl
  | cons e rest ih =>
    obtain ⟨i, u⟩ := e
    by_cases hi : i = k
    · have : i ≠ j := fun e => h (e.symm.trans hi)
      simp [tdel, tget, hi, ih, show k ≠ j from hi ▸ this]
    · simp [tdel, tget, hi, ih]

theorem tget_tdel (t : Table α) (j k : Nat) : tget (tdel t k) j = if j = k then none else tget t j := by
  split
  · rename_i h; rw [h, tget_tdel_self]
  · rename_i h; exact tget_tdel_ne t h

theorem tget_tmod (t : Table α) (j k : Nat) (f : α → α) :
    tget (tmod t k f) j = if j = k then (tget t k).map f else tget t j := by
  unfold tmod
  split
  · rename_i v h; simp [tget_tput, h]
  · rename_i h
    split
    · rename_i e; rw [e, h]; rfl
    · rfl

@[simp] theorem tget_tmod_self (t : Table α) (k : Nat) (f : α → α) : tget (tmod t k f) k = (tget t k).map f := by
  simp [tget_tmod]

theorem tget_tmod_ne (t : Table α) {j k : Nat} (f : α → α) (h : j ≠ k) : tget (tmod t k f) j = tget t j := by
  simp [tget_tmod, h]

/-! ### The canonical form is kept -/

theorem tput_rising (t : Table α) (k : Nat) (v : α) :
    ∀ lo : Option Nat, risingFrom lo t = true → lo.all (· < k) = true → risingFrom lo (tput t k v) = true := by
  induction t with
  | nil => intro lo _ hk; simpa [tput, risingFrom] using hk
  | cons e rest ih =>
    obtain ⟨j, u⟩ := e
    intro lo hr hk
    simp only [risingFrom, Bool.and_eq_true] at hr
    simp only [tput]
    split
    · rename_i hlt; simp [risingFrom, hk, hlt, hr.2]
    · split
      · rename_i _ he; subst he; simp [risingFrom, hr.1, hr.2]
      · rename_i h1 h2
        simp only [risingFrom, Bool.and_eq_true]
        exact ⟨hr.1, ih (some j) hr.2 (by simp; omega)⟩

/-- Writing a record keeps the canonical form. -/
theorem tput_wf {t : Table α} (k : Nat) (v : α) (h : twf t = true) : twf (tput t k v) = true :=
  tput_rising t k v none h rfl

theorem risingFrom_weaken {t : Table α} : ∀ {lo hi : Option Nat}, (∀ k, hi.all (· < k) = true → lo.all (· < k) = true) →
    risingFrom hi t = true → risingFrom lo t = true := by
  cases t with
  | nil => intros; rfl
  | cons e rest =>
    intro lo hi hw h
    simp only [risingFrom, Bool.and_eq_true] at h ⊢
    exact ⟨hw _ h.1, h.2⟩

theorem filter_rising (p : Nat × α → Bool) (t : Table α) :
    ∀ lo : Option Nat, risingFrom lo t = true → risingFrom lo (t.filter p) = true := by
  induction t with
  | nil => intros; rfl
  | cons e rest ih =>
    obtain ⟨j, u⟩ := e
    intro lo h
    simp only [risingFrom, Bool.and_eq_true] at h
    have hr := ih (some j) h.2
    by_cases hp : p (j, u) = true
    · simp [hp, risingFrom, h.1, hr]
    · rw [List.filter_cons_of_neg hp]
      refine risingFrom_weaken (fun k hk => ?_) hr
      cases lo with
      | none => rfl
      | some i => simp only [Option.all_some, decide_eq_true_eq] at h hk ⊢; omega

/-- Keeping some of the records keeps the canonical form. -/
theorem filter_wf {t : Table α} (p : Nat × α → Bool) (h : twf t = true) : twf (t.filter p) = true :=
  filter_rising p t none h

theorem tdel_eq_filter (t : Table α) (k : Nat) : tdel t k = t.filter fun e => e.1 != k := by
  induction t with
  | nil => rfl
  | cons e rest ih => obtain ⟨j, u⟩ := e; by_cases h : j = k <;> simp [tdel, h, ih]

/-- Removing a record keeps the canonical form. -/
theorem tdel_wf {t : Table α} (k : Nat) (h : twf t = true) : twf (tdel t k) = true := by
  rw [tdel_eq_filter]; exact filter_wf _ h

/-- Changing a record keeps the canonical form. -/
theorem tmod_wf {t : Table α} (k : Nat) (f : α → α) (h : twf t = true) : twf (tmod t k f) = true := by
  unfold tmod; split
  · exact tput_wf _ _ h
  · exact h

/-! ### Fixed rows -/

section
variable [Inhabited α] {n : Nat}

@[simp] theorem vget_vset_self (v : Vector α n) {i : Nat} (x : α) (h : i < n) : vget (vset v i x) i = x := by
  simp [vget, vset, h]

theorem vget_vset_ne (v : Vector α n) {i j : Nat} (x : α) (h : j ≠ i) : vget (vset v i x) j = vget v j := by
  by_cases hj : j < n <;> simp [vget, vset, hj, Ne.symm h, Vector.getElem_setIfInBounds_ne]

theorem vget_of_le (v : Vector α n) {i : Nat} (h : n ≤ i) : vget v i = default := by simp [vget, h]

theorem vget_vset (v : Vector α n) (i j : Nat) (x : α) :
    vget (vset v i x) j = if j = i ∧ i < n then x else vget v j := by
  by_cases h : j = i
  · subst h
    by_cases hn : j < n
    · simp [hn]
    · simp [hn, vget_of_le _ (Nat.le_of_not_lt hn)]
  · simp [h, vget_vset_ne _ _ h]

@[simp] theorem vget_vmod_self (v : Vector α n) {i : Nat} (f : α → α) (h : i < n) :
    vget (vmod v i f) i = f (vget v i) := vget_vset_self v _ h

theorem vget_vmod_ne (v : Vector α n) {i j : Nat} (f : α → α) (h : j ≠ i) : vget (vmod v i f) j = vget v j :=
  vget_vset_ne v _ h

theorem vget_vmod (v : Vector α n) (i j : Nat) (f : α → α) :
    vget (vmod v i f) j = if j = i ∧ i < n then f (vget v j) else vget v j := by
  by_cases h : j = i
  · subst h
    by_cases hn : j < n
    · simp [hn]
    · simp [hn, vget_of_le _ (Nat.le_of_not_lt hn)]
  · simp [h, vget_vmod_ne _ _ h]

@[simp] theorem vget_replicate (x : α) {i : Nat} (h : i < n) : vget (Vector.replicate n x) i = x := by
  simp [vget, h]

@[simp] theorem vget_map (v : Vector α n) (f : α → α) {i : Nat} (h : i < n) : vget (v.map f) i = f (vget v i) := by
  simp [vget, h]

end

/-! ### Sets of numbers -/

@[simp] theorem mem_sinsert (k j : Nat) (l : List Nat) : j ∈ sinsert k l ↔ j = k ∨ j ∈ l := by
  induction l with
  | nil => simp [sinsert]
  | cons a rest ih =>
    simp only [sinsert]
    split
    · simp
    · split
      · rename_i _ h; subst h; simp
      · simp [ih]; tauto

@[simp] theorem mem_serase (k j : Nat) (l : List Nat) : j ∈ serase k l ↔ j ∈ l ∧ j ≠ k := by simp [serase]

/-! ### Rising lists -/

/-- Strictly rising, as a relation between every two entries in order. -/
theorem srising_iff (l : List Nat) : srising l = true ↔ l.Pairwise (· < ·) := by
  induction l with
  | nil => simp [srising]
  | cons a l ih =>
    cases l with
    | nil => simp [srising]
    | cons b rest =>
      rw [srising, Bool.and_eq_true, decide_eq_true_eq, ih, List.pairwise_cons (a := a)]
      constructor
      · rintro ⟨hab, h⟩
        refine ⟨fun x hx => ?_, h⟩
        rcases List.mem_cons.1 hx with rfl | hx
        · exact hab
        · exact hab.trans ((List.pairwise_cons.1 h).1 x hx)
      · rintro ⟨h, g⟩
        exact ⟨h b (by simp), g⟩

/-- Entering a number keeps a set's form. -/
theorem srising_sinsert {l : List Nat} (k : Nat) (h : srising l = true) : srising (sinsert k l) = true := by
  rw [srising_iff] at h ⊢
  induction l with
  | nil => simp [sinsert]
  | cons a rest ih =>
    have ha := List.pairwise_cons.1 h
    unfold sinsert; split
    · rename_i hk
      exact List.pairwise_cons.2 ⟨fun x hx => by
        rcases List.mem_cons.1 hx with rfl | hx
        · exact hk
        · exact hk.trans (ha.1 x hx), h⟩
    · split
      · exact h
      · rename_i h1 h2
        refine List.pairwise_cons.2 ⟨fun x hx => ?_, ih ha.2⟩
        rcases (mem_sinsert _ _ _).1 hx with rfl | hx
        · omega
        · exact ha.1 x hx

/-- Taking a number out keeps a set's form. -/
theorem srising_serase {l : List Nat} (k : Nat) (h : srising l = true) : srising (serase k l) = true := by
  rw [srising_iff] at h ⊢; exact h.filter _

end Sys2Proof.Machine
end

