-- ==== Sys2Proof/Laws/Access.lean ====
section
/-! SUPPORT. What reading one record gives after each named update: the record written, or what was there before. -/

namespace Sys2Proof.Machine

variable (s : State)

/-! ### The record written -/

theorem State.piece_modPiece (i j : Nat) (f : Piece → Piece) :
    (s.modPiece i f).piece j = if j = i then (s.piece i).map f else s.piece j := tget_tmod _ _ _ _

@[simp] theorem State.piece_modPiece_self (i : Nat) (f : Piece → Piece) : (s.modPiece i f).piece i = (s.piece i).map f :=
  tget_tmod_self _ _ _

theorem State.order_modOrder (i j : Nat) (f : Order → Order) :
    (s.modOrder i f).order j = if j = i then (s.order i).map f else s.order j := tget_tmod _ _ _ _

@[simp] theorem State.order_modOrder_self (i : Nat) (f : Order → Order) : (s.modOrder i f).order i = (s.order i).map f :=
  tget_tmod_self _ _ _

theorem State.mix_modMix (i j : Nat) (f : Mix → Mix) :
    (s.modMix i f).mix j = if j = i ∧ i < 16 then f (s.mix j) else s.mix j := vget_vmod _ _ _ _

@[simp] theorem State.mix_modMix_self {i : Nat} (f : Mix → Mix) (h : i < 16) :
    (s.modMix i f).mix i = f (s.mix i) := vget_vmod_self _ _ h

theorem State.bed_modBed (i j : Nat) (f : Bed → Bed) :
    (s.modBed i f).bed j = if j = i ∧ i < 12 then f (s.bed j) else s.bed j := vget_vmod _ _ _ _

@[simp] theorem State.bed_modBed_self {i : Nat} (f : Bed → Bed) (h : i < 12) :
    (s.modBed i f).bed i = f (s.bed i) := vget_vmod_self _ _ h

theorem State.zone_modZone (i j : Nat) (f : Zone → Zone) :
    (s.modZone i f).zone j = if j = i ∧ i < 52 then f (s.zone j) else s.zone j := vget_vmod _ _ _ _

@[simp] theorem State.zone_modZone_self {i : Nat} (f : Zone → Zone) (h : i < 52) :
    (s.modZone i f).zone i = f (s.zone i) := vget_vmod_self _ _ h

theorem State.heater_modHeater (i j : Nat) (f : Heater → Heater) :
    (s.modHeater i f).heater j = if j = i ∧ i < 48 then f (s.heater j) else s.heater j := vget_vmod _ _ _ _

@[simp] theorem State.heater_modHeater_self {i : Nat} (f : Heater → Heater) (h : i < 48) :
    (s.modHeater i f).heater i = f (s.heater i) := vget_vmod_self _ _ h

theorem State.block_modBlock (i j : Nat) (f : Block → Block) :
    (s.modBlock i f).block j = if j = i ∧ i < 4 then f (s.block j) else s.block j := vget_vmod _ _ _ _

@[simp] theorem State.block_modBlock_self {i : Nat} (f : Block → Block) (h : i < 4) :
    (s.modBlock i f).block i = f (s.block i) := vget_vmod_self _ _ h

theorem State.bay_modBay (i j : Nat) (f : Bay → Bay) :
    (s.modBay i f).bay j = if j = i ∧ i < 4 then f (s.bay j) else s.bay j := vget_vmod _ _ _ _

@[simp] theorem State.bay_modBay_self {i : Nat} (f : Bay → Bay) (h : i < 4) :
    (s.modBay i f).bay i = f (s.bay i) := vget_vmod_self _ _ h

theorem State.program_modProgram (i j : Nat) (f : Program → Program) :
    (s.modProgram i f).program j = if j = i ∧ i < 8 then f (s.program j) else s.program j := vget_vmod _ _ _ _

@[simp] theorem State.program_modProgram_self {i : Nat} (f : Program → Program) (h : i < 8) :
    (s.modProgram i f).program i = f (s.program i) := vget_vmod_self _ _ h

theorem State.crane_modCrane (i j : Nat) (f : Crane → Crane) :
    (s.modCrane i f).crane j = if j = i ∧ i < 4 then f (s.crane j) else s.crane j := vget_vmod _ _ _ _

@[simp] theorem State.crane_modCrane_self {i : Nat} (f : Crane → Crane) (h : i < 4) :
    (s.modCrane i f).crane i = f (s.crane i) := vget_vmod_self _ _ h

theorem State.order_dropOrder (i j : Nat) :
    (s.dropOrder i).order j = if j = i then none else s.order j := tget_tdel _ _ _

/-! ### Every other record -/

@[simp] theorem State.order_modPiece (id : Nat) (f : Piece → Piece) (i : Nat) : (s.modPiece id f).order i = s.order i := rfl
@[simp] theorem State.mix_modPiece (id : Nat) (f : Piece → Piece) (i : Nat) : (s.modPiece id f).mix i = s.mix i := rfl
@[simp] theorem State.bed_modPiece (id : Nat) (f : Piece → Piece) (i : Nat) : (s.modPiece id f).bed i = s.bed i := rfl
@[simp] theorem State.zone_modPiece (id : Nat) (f : Piece → Piece) (i : Nat) : (s.modPiece id f).zone i = s.zone i := rfl
@[simp] theorem State.heater_modPiece (id : Nat) (f : Piece → Piece) (i : Nat) : (s.modPiece id f).heater i = s.heater i := rfl
@[simp] theorem State.block_modPiece (id : Nat) (f : Piece → Piece) (i : Nat) : (s.modPiece id f).block i = s.block i := rfl
@[simp] theorem State.bay_modPiece (id : Nat) (f : Piece → Piece) (i : Nat) : (s.modPiece id f).bay i = s.bay i := rfl
@[simp] theorem State.program_modPiece (id : Nat) (f : Piece → Piece) (i : Nat) : (s.modPiece id f).program i = s.program i := rfl
@[simp] theorem State.crane_modPiece (id : Nat) (f : Piece → Piece) (i : Nat) : (s.modPiece id f).crane i = s.crane i := rfl
@[simp] theorem State.piece_modOrder (slot : Nat) (f : Order → Order) (i : Nat) : (s.modOrder slot f).piece i = s.piece i := rfl
@[simp] theorem State.mix_modOrder (slot : Nat) (f : Order → Order) (i : Nat) : (s.modOrder slot f).mix i = s.mix i := rfl
@[simp] theorem State.bed_modOrder (slot : Nat) (f : Order → Order) (i : Nat) : (s.modOrder slot f).bed i = s.bed i := rfl
@[simp] theorem State.zone_modOrder (slot : Nat) (f : Order → Order) (i : Nat) : (s.modOrder slot f).zone i = s.zone i := rfl
@[simp] theorem State.heater_modOrder (slot : Nat) (f : Order → Order) (i : Nat) : (s.modOrder slot f).heater i = s.heater i := rfl
@[simp] theorem State.block_modOrder (slot : Nat) (f : Order → Order) (i : Nat) : (s.modOrder slot f).block i = s.block i := rfl
@[simp] theorem State.bay_modOrder (slot : Nat) (f : Order → Order) (i : Nat) : (s.modOrder slot f).bay i = s.bay i := rfl
@[simp] theorem State.program_modOrder (slot : Nat) (f : Order → Order) (i : Nat) : (s.modOrder slot f).program i = s.program i := rfl
@[simp] theorem State.crane_modOrder (slot : Nat) (f : Order → Order) (i : Nat) : (s.modOrder slot f).crane i = s.crane i := rfl
@[simp] theorem State.piece_modMix (m : Nat) (f : Mix → Mix) (i : Nat) : (s.modMix m f).piece i = s.piece i := rfl
@[simp] theorem State.order_modMix (m : Nat) (f : Mix → Mix) (i : Nat) : (s.modMix m f).order i = s.order i := rfl
@[simp] theorem State.bed_modMix (m : Nat) (f : Mix → Mix) (i : Nat) : (s.modMix m f).bed i = s.bed i := rfl
@[simp] theorem State.zone_modMix (m : Nat) (f : Mix → Mix) (i : Nat) : (s.modMix m f).zone i = s.zone i := rfl
@[simp] theorem State.heater_modMix (m : Nat) (f : Mix → Mix) (i : Nat) : (s.modMix m f).heater i = s.heater i := rfl
@[simp] theorem State.block_modMix (m : Nat) (f : Mix → Mix) (i : Nat) : (s.modMix m f).block i = s.block i := rfl
@[simp] theorem State.bay_modMix (m : Nat) (f : Mix → Mix) (i : Nat) : (s.modMix m f).bay i = s.bay i := rfl
@[simp] theorem State.program_modMix (m : Nat) (f : Mix → Mix) (i : Nat) : (s.modMix m f).program i = s.program i := rfl
@[simp] theorem State.crane_modMix (m : Nat) (f : Mix → Mix) (i : Nat) : (s.modMix m f).crane i = s.crane i := rfl
@[simp] theorem State.piece_modBed (b : Nat) (f : Bed → Bed) (i : Nat) : (s.modBed b f).piece i = s.piece i := rfl
@[simp] theorem State.order_modBed (b : Nat) (f : Bed → Bed) (i : Nat) : (s.modBed b f).order i = s.order i := rfl
@[simp] theorem State.mix_modBed (b : Nat) (f : Bed → Bed) (i : Nat) : (s.modBed b f).mix i = s.mix i := rfl
@[simp] theorem State.zone_modBed (b : Nat) (f : Bed → Bed) (i : Nat) : (s.modBed b f).zone i = s.zone i := rfl
@[simp] theorem State.heater_modBed (b : Nat) (f : Bed → Bed) (i : Nat) : (s.modBed b f).heater i = s.heater i := rfl
@[simp] theorem State.block_modBed (b : Nat) (f : Bed → Bed) (i : Nat) : (s.modBed b f).block i = s.block i := rfl
@[simp] theorem State.bay_modBed (b : Nat) (f : Bed → Bed) (i : Nat) : (s.modBed b f).bay i = s.bay i := rfl
@[simp] theorem State.program_modBed (b : Nat) (f : Bed → Bed) (i : Nat) : (s.modBed b f).program i = s.program i := rfl
@[simp] theorem State.crane_modBed (b : Nat) (f : Bed → Bed) (i : Nat) : (s.modBed b f).crane i = s.crane i := rfl
@[simp] theorem State.piece_modZone (z : Nat) (f : Zone → Zone) (i : Nat) : (s.modZone z f).piece i = s.piece i := rfl
@[simp] theorem State.order_modZone (z : Nat) (f : Zone → Zone) (i : Nat) : (s.modZone z f).order i = s.order i := rfl
@[simp] theorem State.mix_modZone (z : Nat) (f : Zone → Zone) (i : Nat) : (s.modZone z f).mix i = s.mix i := rfl
@[simp] theorem State.bed_modZone (z : Nat) (f : Zone → Zone) (i : Nat) : (s.modZone z f).bed i = s.bed i := rfl
@[simp] theorem State.heater_modZone (z : Nat) (f : Zone → Zone) (i : Nat) : (s.modZone z f).heater i = s.heater i := rfl
@[simp] theorem State.block_modZone (z : Nat) (f : Zone → Zone) (i : Nat) : (s.modZone z f).block i = s.block i := rfl
@[simp] theorem State.bay_modZone (z : Nat) (f : Zone → Zone) (i : Nat) : (s.modZone z f).bay i = s.bay i := rfl
@[simp] theorem State.program_modZone (z : Nat) (f : Zone → Zone) (i : Nat) : (s.modZone z f).program i = s.program i := rfl
@[simp] theorem State.crane_modZone (z : Nat) (f : Zone → Zone) (i : Nat) : (s.modZone z f).crane i = s.crane i := rfl
@[simp] theorem State.piece_modHeater (z : Nat) (f : Heater → Heater) (i : Nat) : (s.modHeater z f).piece i = s.piece i := rfl
@[simp] theorem State.order_modHeater (z : Nat) (f : Heater → Heater) (i : Nat) : (s.modHeater z f).order i = s.order i := rfl
@[simp] theorem State.mix_modHeater (z : Nat) (f : Heater → Heater) (i : Nat) : (s.modHeater z f).mix i = s.mix i := rfl
@[simp] theorem State.bed_modHeater (z : Nat) (f : Heater → Heater) (i : Nat) : (s.modHeater z f).bed i = s.bed i := rfl
@[simp] theorem State.zone_modHeater (z : Nat) (f : Heater → Heater) (i : Nat) : (s.modHeater z f).zone i = s.zone i := rfl
@[simp] theorem State.block_modHeater (z : Nat) (f : Heater → Heater) (i : Nat) : (s.modHeater z f).block i = s.block i := rfl
@[simp] theorem State.bay_modHeater (z : Nat) (f : Heater → Heater) (i : Nat) : (s.modHeater z f).bay i = s.bay i := rfl
@[simp] theorem State.program_modHeater (z : Nat) (f : Heater → Heater) (i : Nat) : (s.modHeater z f).program i = s.program i := rfl
@[simp] theorem State.crane_modHeater (z : Nat) (f : Heater → Heater) (i : Nat) : (s.modHeater z f).crane i = s.crane i := rfl
@[simp] theorem State.piece_modBlock (k : Nat) (f : Block → Block) (i : Nat) : (s.modBlock k f).piece i = s.piece i := rfl
@[simp] theorem State.order_modBlock (k : Nat) (f : Block → Block) (i : Nat) : (s.modBlock k f).order i = s.order i := rfl
@[simp] theorem State.mix_modBlock (k : Nat) (f : Block → Block) (i : Nat) : (s.modBlock k f).mix i = s.mix i := rfl
@[simp] theorem State.bed_modBlock (k : Nat) (f : Block → Block) (i : Nat) : (s.modBlock k f).bed i = s.bed i := rfl
@[simp] theorem State.zone_modBlock (k : Nat) (f : Block → Block) (i : Nat) : (s.modBlock k f).zone i = s.zone i := rfl
@[simp] theorem State.heater_modBlock (k : Nat) (f : Block → Block) (i : Nat) : (s.modBlock k f).heater i = s.heater i := rfl
@[simp] theorem State.bay_modBlock (k : Nat) (f : Block → Block) (i : Nat) : (s.modBlock k f).bay i = s.bay i := rfl
@[simp] theorem State.program_modBlock (k : Nat) (f : Block → Block) (i : Nat) : (s.modBlock k f).program i = s.program i := rfl
@[simp] theorem State.crane_modBlock (k : Nat) (f : Block → Block) (i : Nat) : (s.modBlock k f).crane i = s.crane i := rfl
@[simp] theorem State.piece_modBay (b : Nat) (f : Bay → Bay) (i : Nat) : (s.modBay b f).piece i = s.piece i := rfl
@[simp] theorem State.order_modBay (b : Nat) (f : Bay → Bay) (i : Nat) : (s.modBay b f).order i = s.order i := rfl
@[simp] theorem State.mix_modBay (b : Nat) (f : Bay → Bay) (i : Nat) : (s.modBay b f).mix i = s.mix i := rfl
@[simp] theorem State.bed_modBay (b : Nat) (f : Bay → Bay) (i : Nat) : (s.modBay b f).bed i = s.bed i := rfl
@[simp] theorem State.zone_modBay (b : Nat) (f : Bay → Bay) (i : Nat) : (s.modBay b f).zone i = s.zone i := rfl
@[simp] theorem State.heater_modBay (b : Nat) (f : Bay → Bay) (i : Nat) : (s.modBay b f).heater i = s.heater i := rfl
@[simp] theorem State.block_modBay (b : Nat) (f : Bay → Bay) (i : Nat) : (s.modBay b f).block i = s.block i := rfl
@[simp] theorem State.program_modBay (b : Nat) (f : Bay → Bay) (i : Nat) : (s.modBay b f).program i = s.program i := rfl
@[simp] theorem State.crane_modBay (b : Nat) (f : Bay → Bay) (i : Nat) : (s.modBay b f).crane i = s.crane i := rfl
@[simp] theorem State.piece_modProgram (n : Nat) (f : Program → Program) (i : Nat) : (s.modProgram n f).piece i = s.piece i := rfl
@[simp] theorem State.order_modProgram (n : Nat) (f : Program → Program) (i : Nat) : (s.modProgram n f).order i = s.order i := rfl
@[simp] theorem State.mix_modProgram (n : Nat) (f : Program → Program) (i : Nat) : (s.modProgram n f).mix i = s.mix i := rfl
@[simp] theorem State.bed_modProgram (n : Nat) (f : Program → Program) (i : Nat) : (s.modProgram n f).bed i = s.bed i := rfl
@[simp] theorem State.zone_modProgram (n : Nat) (f : Program → Program) (i : Nat) : (s.modProgram n f).zone i = s.zone i := rfl
@[simp] theorem State.heater_modProgram (n : Nat) (f : Program → Program) (i : Nat) : (s.modProgram n f).heater i = s.heater i := rfl
@[simp] theorem State.block_modProgram (n : Nat) (f : Program → Program) (i : Nat) : (s.modProgram n f).block i = s.block i := rfl
@[simp] theorem State.bay_modProgram (n : Nat) (f : Program → Program) (i : Nat) : (s.modProgram n f).bay i = s.bay i := rfl
@[simp] theorem State.crane_modProgram (n : Nat) (f : Program → Program) (i : Nat) : (s.modProgram n f).crane i = s.crane i := rfl
@[simp] theorem State.piece_modCrane (c : Nat) (f : Crane → Crane) (i : Nat) : (s.modCrane c f).piece i = s.piece i := rfl
@[simp] theorem State.order_modCrane (c : Nat) (f : Crane → Crane) (i : Nat) : (s.modCrane c f).order i = s.order i := rfl
@[simp] theorem State.mix_modCrane (c : Nat) (f : Crane → Crane) (i : Nat) : (s.modCrane c f).mix i = s.mix i := rfl
@[simp] theorem State.bed_modCrane (c : Nat) (f : Crane → Crane) (i : Nat) : (s.modCrane c f).bed i = s.bed i := rfl
@[simp] theorem State.zone_modCrane (c : Nat) (f : Crane → Crane) (i : Nat) : (s.modCrane c f).zone i = s.zone i := rfl
@[simp] theorem State.heater_modCrane (c : Nat) (f : Crane → Crane) (i : Nat) : (s.modCrane c f).heater i = s.heater i := rfl
@[simp] theorem State.block_modCrane (c : Nat) (f : Crane → Crane) (i : Nat) : (s.modCrane c f).block i = s.block i := rfl
@[simp] theorem State.bay_modCrane (c : Nat) (f : Crane → Crane) (i : Nat) : (s.modCrane c f).bay i = s.bay i := rfl
@[simp] theorem State.program_modCrane (c : Nat) (f : Crane → Crane) (i : Nat) : (s.modCrane c f).program i = s.program i := rfl
@[simp] theorem State.piece_setEntry (b p : Nat) (e : Entry) (i : Nat) : (s.setEntry b p e).piece i = s.piece i := rfl
@[simp] theorem State.order_setEntry (b p : Nat) (e : Entry) (i : Nat) : (s.setEntry b p e).order i = s.order i := rfl
@[simp] theorem State.mix_setEntry (b p : Nat) (e : Entry) (i : Nat) : (s.setEntry b p e).mix i = s.mix i := rfl
@[simp] theorem State.zone_setEntry (b p : Nat) (e : Entry) (i : Nat) : (s.setEntry b p e).zone i = s.zone i := rfl
@[simp] theorem State.heater_setEntry (b p : Nat) (e : Entry) (i : Nat) : (s.setEntry b p e).heater i = s.heater i := rfl
@[simp] theorem State.block_setEntry (b p : Nat) (e : Entry) (i : Nat) : (s.setEntry b p e).block i = s.block i := rfl
@[simp] theorem State.bay_setEntry (b p : Nat) (e : Entry) (i : Nat) : (s.setEntry b p e).bay i = s.bay i := rfl
@[simp] theorem State.program_setEntry (b p : Nat) (e : Entry) (i : Nat) : (s.setEntry b p e).program i = s.program i := rfl
@[simp] theorem State.crane_setEntry (b p : Nat) (e : Entry) (i : Nat) : (s.setEntry b p e).crane i = s.crane i := rfl
@[simp] theorem State.piece_noteBed (b : Nat) (i : Nat) : (s.noteBed b).piece i = s.piece i := rfl
@[simp] theorem State.order_noteBed (b : Nat) (i : Nat) : (s.noteBed b).order i = s.order i := rfl
@[simp] theorem State.mix_noteBed (b : Nat) (i : Nat) : (s.noteBed b).mix i = s.mix i := rfl
@[simp] theorem State.bed_noteBed (b : Nat) (i : Nat) : (s.noteBed b).bed i = s.bed i := rfl
@[simp] theorem State.zone_noteBed (b : Nat) (i : Nat) : (s.noteBed b).zone i = s.zone i := rfl
@[simp] theorem State.heater_noteBed (b : Nat) (i : Nat) : (s.noteBed b).heater i = s.heater i := rfl
@[simp] theorem State.block_noteBed (b : Nat) (i : Nat) : (s.noteBed b).block i = s.block i := rfl
@[simp] theorem State.bay_noteBed (b : Nat) (i : Nat) : (s.noteBed b).bay i = s.bay i := rfl
@[simp] theorem State.program_noteBed (b : Nat) (i : Nat) : (s.noteBed b).program i = s.program i := rfl
@[simp] theorem State.crane_noteBed (b : Nat) (i : Nat) : (s.noteBed b).crane i = s.crane i := rfl
@[simp] theorem State.piece_noteZone (z : Nat) (i : Nat) : (s.noteZone z).piece i = s.piece i := rfl
@[simp] theorem State.order_noteZone (z : Nat) (i : Nat) : (s.noteZone z).order i = s.order i := rfl
@[simp] theorem State.mix_noteZone (z : Nat) (i : Nat) : (s.noteZone z).mix i = s.mix i := rfl
@[simp] theorem State.bed_noteZone (z : Nat) (i : Nat) : (s.noteZone z).bed i = s.bed i := rfl
@[simp] theorem State.zone_noteZone (z : Nat) (i : Nat) : (s.noteZone z).zone i = s.zone i := rfl
@[simp] theorem State.heater_noteZone (z : Nat) (i : Nat) : (s.noteZone z).heater i = s.heater i := rfl
@[simp] theorem State.block_noteZone (z : Nat) (i : Nat) : (s.noteZone z).block i = s.block i := rfl
@[simp] theorem State.bay_noteZone (z : Nat) (i : Nat) : (s.noteZone z).bay i = s.bay i := rfl
@[simp] theorem State.program_noteZone (z : Nat) (i : Nat) : (s.noteZone z).program i = s.program i := rfl
@[simp] theorem State.crane_noteZone (z : Nat) (i : Nat) : (s.noteZone z).crane i = s.crane i := rfl
@[simp] theorem State.piece_notePiece (id : Nat) (i : Nat) : (s.notePiece id).piece i = s.piece i := rfl
@[simp] theorem State.order_notePiece (id : Nat) (i : Nat) : (s.notePiece id).order i = s.order i := rfl
@[simp] theorem State.mix_notePiece (id : Nat) (i : Nat) : (s.notePiece id).mix i = s.mix i := rfl
@[simp] theorem State.bed_notePiece (id : Nat) (i : Nat) : (s.notePiece id).bed i = s.bed i := rfl
@[simp] theorem State.zone_notePiece (id : Nat) (i : Nat) : (s.notePiece id).zone i = s.zone i := rfl
@[simp] theorem State.heater_notePiece (id : Nat) (i : Nat) : (s.notePiece id).heater i = s.heater i := rfl
@[simp] theorem State.block_notePiece (id : Nat) (i : Nat) : (s.notePiece id).block i = s.block i := rfl
@[simp] theorem State.bay_notePiece (id : Nat) (i : Nat) : (s.notePiece id).bay i = s.bay i := rfl
@[simp] theorem State.program_notePiece (id : Nat) (i : Nat) : (s.notePiece id).program i = s.program i := rfl
@[simp] theorem State.crane_notePiece (id : Nat) (i : Nat) : (s.notePiece id).crane i = s.crane i := rfl
@[simp] theorem State.piece_noteOrder (h : Handle) (i : Nat) : (s.noteOrder h).piece i = s.piece i := rfl
@[simp] theorem State.order_noteOrder (h : Handle) (i : Nat) : (s.noteOrder h).order i = s.order i := rfl
@[simp] theorem State.mix_noteOrder (h : Handle) (i : Nat) : (s.noteOrder h).mix i = s.mix i := rfl
@[simp] theorem State.bed_noteOrder (h : Handle) (i : Nat) : (s.noteOrder h).bed i = s.bed i := rfl
@[simp] theorem State.zone_noteOrder (h : Handle) (i : Nat) : (s.noteOrder h).zone i = s.zone i := rfl
@[simp] theorem State.heater_noteOrder (h : Handle) (i : Nat) : (s.noteOrder h).heater i = s.heater i := rfl
@[simp] theorem State.block_noteOrder (h : Handle) (i : Nat) : (s.noteOrder h).block i = s.block i := rfl
@[simp] theorem State.bay_noteOrder (h : Handle) (i : Nat) : (s.noteOrder h).bay i = s.bay i := rfl
@[simp] theorem State.program_noteOrder (h : Handle) (i : Nat) : (s.noteOrder h).program i = s.program i := rfl
@[simp] theorem State.crane_noteOrder (h : Handle) (i : Nat) : (s.noteOrder h).crane i = s.crane i := rfl
@[simp] theorem State.piece_noteProgram (n : Nat) (i : Nat) : (s.noteProgram n).piece i = s.piece i := rfl
@[simp] theorem State.order_noteProgram (n : Nat) (i : Nat) : (s.noteProgram n).order i = s.order i := rfl
@[simp] theorem State.mix_noteProgram (n : Nat) (i : Nat) : (s.noteProgram n).mix i = s.mix i := rfl
@[simp] theorem State.bed_noteProgram (n : Nat) (i : Nat) : (s.noteProgram n).bed i = s.bed i := rfl
@[simp] theorem State.zone_noteProgram (n : Nat) (i : Nat) : (s.noteProgram n).zone i = s.zone i := rfl
@[simp] theorem State.heater_noteProgram (n : Nat) (i : Nat) : (s.noteProgram n).heater i = s.heater i := rfl
@[simp] theorem State.block_noteProgram (n : Nat) (i : Nat) : (s.noteProgram n).block i = s.block i := rfl
@[simp] theorem State.bay_noteProgram (n : Nat) (i : Nat) : (s.noteProgram n).bay i = s.bay i := rfl
@[simp] theorem State.program_noteProgram (n : Nat) (i : Nat) : (s.noteProgram n).program i = s.program i := rfl
@[simp] theorem State.crane_noteProgram (n : Nat) (i : Nat) : (s.noteProgram n).crane i = s.crane i := rfl
@[simp] theorem State.piece_noteCrane (c : Nat) (i : Nat) : (s.noteCrane c).piece i = s.piece i := rfl
@[simp] theorem State.order_noteCrane (c : Nat) (i : Nat) : (s.noteCrane c).order i = s.order i := rfl
@[simp] theorem State.mix_noteCrane (c : Nat) (i : Nat) : (s.noteCrane c).mix i = s.mix i := rfl
@[simp] theorem State.bed_noteCrane (c : Nat) (i : Nat) : (s.noteCrane c).bed i = s.bed i := rfl
@[simp] theorem State.zone_noteCrane (c : Nat) (i : Nat) : (s.noteCrane c).zone i = s.zone i := rfl
@[simp] theorem State.heater_noteCrane (c : Nat) (i : Nat) : (s.noteCrane c).heater i = s.heater i := rfl
@[simp] theorem State.block_noteCrane (c : Nat) (i : Nat) : (s.noteCrane c).block i = s.block i := rfl
@[simp] theorem State.bay_noteCrane (c : Nat) (i : Nat) : (s.noteCrane c).bay i = s.bay i := rfl
@[simp] theorem State.program_noteCrane (c : Nat) (i : Nat) : (s.noteCrane c).program i = s.program i := rfl
@[simp] theorem State.crane_noteCrane (c : Nat) (i : Nat) : (s.noteCrane c).crane i = s.crane i := rfl
@[simp] theorem State.piece_modLink (f : Link → Link) (i : Nat) : (s.modLink f).piece i = s.piece i := rfl
@[simp] theorem State.order_modLink (f : Link → Link) (i : Nat) : (s.modLink f).order i = s.order i := rfl
@[simp] theorem State.mix_modLink (f : Link → Link) (i : Nat) : (s.modLink f).mix i = s.mix i := rfl
@[simp] theorem State.bed_modLink (f : Link → Link) (i : Nat) : (s.modLink f).bed i = s.bed i := rfl
@[simp] theorem State.zone_modLink (f : Link → Link) (i : Nat) : (s.modLink f).zone i = s.zone i := rfl
@[simp] theorem State.heater_modLink (f : Link → Link) (i : Nat) : (s.modLink f).heater i = s.heater i := rfl
@[simp] theorem State.block_modLink (f : Link → Link) (i : Nat) : (s.modLink f).block i = s.block i := rfl
@[simp] theorem State.bay_modLink (f : Link → Link) (i : Nat) : (s.modLink f).bay i = s.bay i := rfl
@[simp] theorem State.program_modLink (f : Link → Link) (i : Nat) : (s.modLink f).program i = s.program i := rfl
@[simp] theorem State.crane_modLink (f : Link → Link) (i : Nat) : (s.modLink f).crane i = s.crane i := rfl
@[simp] theorem State.piece_modPort (f : Port → Port) (i : Nat) : (s.modPort f).piece i = s.piece i := rfl
@[simp] theorem State.order_modPort (f : Port → Port) (i : Nat) : (s.modPort f).order i = s.order i := rfl
@[simp] theorem State.mix_modPort (f : Port → Port) (i : Nat) : (s.modPort f).mix i = s.mix i := rfl
@[simp] theorem State.bed_modPort (f : Port → Port) (i : Nat) : (s.modPort f).bed i = s.bed i := rfl
@[simp] theorem State.zone_modPort (f : Port → Port) (i : Nat) : (s.modPort f).zone i = s.zone i := rfl
@[simp] theorem State.heater_modPort (f : Port → Port) (i : Nat) : (s.modPort f).heater i = s.heater i := rfl
@[simp] theorem State.block_modPort (f : Port → Port) (i : Nat) : (s.modPort f).block i = s.block i := rfl
@[simp] theorem State.bay_modPort (f : Port → Port) (i : Nat) : (s.modPort f).bay i = s.bay i := rfl
@[simp] theorem State.program_modPort (f : Port → Port) (i : Nat) : (s.modPort f).program i = s.program i := rfl
@[simp] theorem State.crane_modPort (f : Port → Port) (i : Nat) : (s.modPort f).crane i = s.crane i := rfl
@[simp] theorem State.piece_withPending (q : List Instr) (i : Nat) : (s.withPending q).piece i = s.piece i := rfl
@[simp] theorem State.order_withPending (q : List Instr) (i : Nat) : (s.withPending q).order i = s.order i := rfl
@[simp] theorem State.mix_withPending (q : List Instr) (i : Nat) : (s.withPending q).mix i = s.mix i := rfl
@[simp] theorem State.bed_withPending (q : List Instr) (i : Nat) : (s.withPending q).bed i = s.bed i := rfl
@[simp] theorem State.zone_withPending (q : List Instr) (i : Nat) : (s.withPending q).zone i = s.zone i := rfl
@[simp] theorem State.heater_withPending (q : List Instr) (i : Nat) : (s.withPending q).heater i = s.heater i := rfl
@[simp] theorem State.block_withPending (q : List Instr) (i : Nat) : (s.withPending q).block i = s.block i := rfl
@[simp] theorem State.bay_withPending (q : List Instr) (i : Nat) : (s.withPending q).bay i = s.bay i := rfl
@[simp] theorem State.program_withPending (q : List Instr) (i : Nat) : (s.withPending q).program i = s.program i := rfl
@[simp] theorem State.crane_withPending (q : List Instr) (i : Nat) : (s.withPending q).crane i = s.crane i := rfl
@[simp] theorem State.piece_handLine (i : Nat) : (s.handLine).piece i = s.piece i := rfl
@[simp] theorem State.order_handLine (i : Nat) : (s.handLine).order i = s.order i := rfl
@[simp] theorem State.mix_handLine (i : Nat) : (s.handLine).mix i = s.mix i := rfl
@[simp] theorem State.bed_handLine (i : Nat) : (s.handLine).bed i = s.bed i := rfl
@[simp] theorem State.zone_handLine (i : Nat) : (s.handLine).zone i = s.zone i := rfl
@[simp] theorem State.heater_handLine (i : Nat) : (s.handLine).heater i = s.heater i := rfl
@[simp] theorem State.block_handLine (i : Nat) : (s.handLine).block i = s.block i := rfl
@[simp] theorem State.bay_handLine (i : Nat) : (s.handLine).bay i = s.bay i := rfl
@[simp] theorem State.program_handLine (i : Nat) : (s.handLine).program i = s.program i := rfl
@[simp] theorem State.crane_handLine (i : Nat) : (s.handLine).crane i = s.crane i := rfl
@[simp] theorem State.piece_handSlot (i : Nat) : (s.handSlot).piece i = s.piece i := rfl
@[simp] theorem State.order_handSlot (i : Nat) : (s.handSlot).order i = s.order i := rfl
@[simp] theorem State.mix_handSlot (i : Nat) : (s.handSlot).mix i = s.mix i := rfl
@[simp] theorem State.bed_handSlot (i : Nat) : (s.handSlot).bed i = s.bed i := rfl
@[simp] theorem State.zone_handSlot (i : Nat) : (s.handSlot).zone i = s.zone i := rfl
@[simp] theorem State.heater_handSlot (i : Nat) : (s.handSlot).heater i = s.heater i := rfl
@[simp] theorem State.block_handSlot (i : Nat) : (s.handSlot).block i = s.block i := rfl
@[simp] theorem State.bay_handSlot (i : Nat) : (s.handSlot).bay i = s.bay i := rfl
@[simp] theorem State.program_handSlot (i : Nat) : (s.handSlot).program i = s.program i := rfl
@[simp] theorem State.crane_handSlot (i : Nat) : (s.handSlot).crane i = s.crane i := rfl
@[simp] theorem State.piece_dropOrder (slot : Nat) (i : Nat) : (s.dropOrder slot).piece i = s.piece i := rfl
@[simp] theorem State.mix_dropOrder (slot : Nat) (i : Nat) : (s.dropOrder slot).mix i = s.mix i := rfl
@[simp] theorem State.bed_dropOrder (slot : Nat) (i : Nat) : (s.dropOrder slot).bed i = s.bed i := rfl
@[simp] theorem State.zone_dropOrder (slot : Nat) (i : Nat) : (s.dropOrder slot).zone i = s.zone i := rfl
@[simp] theorem State.heater_dropOrder (slot : Nat) (i : Nat) : (s.dropOrder slot).heater i = s.heater i := rfl
@[simp] theorem State.block_dropOrder (slot : Nat) (i : Nat) : (s.dropOrder slot).block i = s.block i := rfl
@[simp] theorem State.bay_dropOrder (slot : Nat) (i : Nat) : (s.dropOrder slot).bay i = s.bay i := rfl
@[simp] theorem State.program_dropOrder (slot : Nat) (i : Nat) : (s.dropOrder slot).program i = s.program i := rfl
@[simp] theorem State.crane_dropOrder (slot : Nat) (i : Nat) : (s.dropOrder slot).crane i = s.crane i := rfl

end Sys2Proof.Machine
end

