-- ==== Sys2Proof/Laws/Scheduler.lean ====
section
/-! SUPPORT. Everything the Move Scheduler can do at the end of a step, said once: `Arranges` for its re-evaluations and
`Settles` for the whole, selections included. A statement about a step cites `Work.finish_settles` and does not unfold the
scheduler. -/

namespace Sys2Proof.Machine

/-! ### What a step of MS can change -/

/-- What re-evaluations leave of an order: only its reservation and its state move, and the state only among PARKED,
WAITING and QUEUED; without the exemption `e`, an order that is not WAITING keeps its state. -/
structure Order.Rearranged (e : Prop) (o o' : Order) : Prop where
  fields : o' = { o with reserved := o'.reserved, state := o'.state }
  unoffered : o.state.unoffered = true → o'.state.unoffered = true
  other : o.state.unoffered = false → o'.state = o.state ∧ (o'.reserved = none ∨ o'.reserved = o.reserved)
  steady : ¬e → o.state.isWaiting = false → o'.state = o.state ∧ (o.reserved = none → o'.reserved = none)

/-- What the re-evaluations of a step can do (R122 to R129); `E` are the slots that are evaluated whatever their state. -/
structure Arranges (E : Nat → Prop) (s t : State) : Prop where
  frame : t = { s with
    pieces := t.pieces, orders := t.orders, tags := t.tags, counter := t.counter, blocks := t.blocks, bays := t.bays }
  order : ∀ slot o, s.order slot = some o → ∃ o', t.order slot = some o' ∧ o.Rearranged (E slot) o'
  fresh : ∀ slot o', s.order slot = none → t.order slot = some o' → o'.state.unoffered = true
  yard : SameYard s t

/-! ### Both relations compose -/

theorem Order.Rearranged.refl {e : Prop} (o : Order) : o.Rearranged e o :=
  ⟨rfl, id, fun _ => ⟨rfl, .inr rfl⟩, fun _ _ => ⟨rfl, id⟩⟩

/-- A reservation that is at most given up, twice. -/
theorem given_up_trans {α : Type} {a b c : Option α} (h : b = none ∨ b = a) (g : c = none ∨ c = b) :
    c = none ∨ c = a := by
  rcases g with g | g
  · exact .inl g
  · rw [g]; exact h

theorem Order.Rearranged.trans {e : Prop} {a b c : Order} (h : a.Rearranged e b) (g : b.Rearranged e c) :
    a.Rearranged e c where
  fields := by rw [g.fields, h.fields]
  unoffered u := g.unoffered (h.unoffered u)
  other u := by
    have hb := h.other u
    have hc := g.other (by rw [hb.1]; exact u)
    exact ⟨hc.1.trans hb.1, given_up_trans hb.2 hc.2⟩
  steady n w := by
    have hb := h.steady n w
    have hc := g.steady n (by rw [hb.1]; exact w)
    exact ⟨hc.1.trans hb.1, fun r => hc.2 (hb.2 r)⟩

theorem Order.Settled.refl (o : Order) : o.Settled o := ⟨rfl, .inl, fun _ => ⟨rfl, rfl, .inr rfl⟩, fun _ => .inl ⟨rfl, id⟩⟩

theorem Order.Rearranged.settled {o o' : Order} (h : o.Rearranged False o') : o.Settled o' where
  fields := by rw [h.fields]
  unoffered u := .inl (h.unoffered u)
  other u := ⟨(h.other u).1, by rw [h.fields], (h.other u).2⟩
  steady w := .inl (h.steady id w)

theorem Order.Settled.trans {a b c : Order} (h : a.Settled b) (g : b.Settled c) : a.Settled c where
  fields := by rw [g.fields, h.fields]
  unoffered u := by
    rcases h.unoffered u with hb | hb
    · rcases g.unoffered hb with hc | hc
      · exact .inl hc
      · exact .inr ⟨hc.1, by rw [h.fields] at hc; exact hc.2⟩
    · exact .inr ⟨(g.other (by rw [hb.1]; rfl)).1.trans hb.1, hb.2⟩
  other u := by
    have hb := h.other u
    have hc := g.other (by rw [hb.1]; exact u)
    exact ⟨hc.1.trans hb.1, hc.2.1.trans hb.2.1, given_up_trans hb.2.2 hc.2.2⟩
  steady w := by
    rcases h.steady w with ⟨hb, rb⟩ | ⟨ha, hb⟩
    · rw [← hb] at w
      rcases g.steady w with ⟨hc, rc⟩ | ⟨hq, hc⟩
      · exact .inl ⟨hc.trans hb, fun r => rc (rb r)⟩
      · exact .inr ⟨hb.symm.trans hq, hc⟩
    · exact .inr ⟨ha, (g.other (by rw [hb]; rfl)).1.trans hb⟩

theorem Piece.Bound.refl (p : Piece) : p.Bound p := ⟨rfl, fun _ => rfl⟩

theorem Piece.Bound.trans {a b c : Piece} (h : a.Bound b) (g : b.Bound c) : a.Bound c where
  fields := by rw [g.fields, h.fields]
  kept u := by rw [← h.kept u]; exact g.kept (by rw [h.kept u]; exact u)

theorem Block.Rearranged.refl (b : Block) : b.Rearranged b := ⟨rfl, id, id, id, fun _ _ h _ => h⟩

theorem Block.Rearranged.trans {a b c : Block} (h : a.Rearranged b) (g : b.Rearranged c) : a.Rearranged c where
  fields := by rw [g.fields, h.fields]
  slots := g.slots ∘ h.slots
  footprints := g.footprints ∘ h.footprints
  closed := g.closed ∘ h.closed
  made key c hc hr := h.made key c (g.made key c hc hr) hr

theorem Bay.Rearranged.refl (b : Bay) : b.Rearranged b := ⟨rfl, id⟩

theorem Bay.Rearranged.trans {a b c : Bay} (h : a.Rearranged b) (g : b.Rearranged c) : a.Rearranged c where
  pieces := g.pieces.trans h.pieces
  room := g.room ∘ h.room

theorem SameYard.refl (s : State) : SameYard s s where
  piece _ p h := ⟨p, h, .refl p⟩
  noPiece _ h := h
  block _ := .refl _
  bay _ := .refl _
  piecesWf := id
  ordersWf := id
  counter := id
  tags := id

theorem SameYard.trans {a b c : State} (h : SameYard a b) (g : SameYard b c) : SameYard a c where
  piece id p hp := by
    obtain ⟨q, hq, pq⟩ := h.piece id p hp
    obtain ⟨r, hr, qr⟩ := g.piece id q hq
    exact ⟨r, hr, pq.trans qr⟩
  noPiece id hp := g.noPiece id (h.noPiece id hp)
  block k := (h.block k).trans (g.block k)
  bay b := (h.bay b).trans (g.bay b)
  piecesWf := g.piecesWf ∘ h.piecesWf
  ordersWf := g.ordersWf ∘ h.ordersWf
  counter := g.counter ∘ h.counter
  tags := g.tags ∘ h.tags

theorem Arranges.refl {E : Nat → Prop} (s : State) : Arranges E s s where
  frame := rfl
  order _ o h := ⟨o, h, .refl o⟩
  fresh _ _ h h' := by rw [h] at h'; cases h'
  yard := .refl s

theorem Arranges.trans {E : Nat → Prop} {a b c : State} (h : Arranges E a b) (g : Arranges E b c) : Arranges E a c where
  frame := by rw [g.frame, h.frame]
  order slot o ho := by
    obtain ⟨o', ho', r⟩ := h.order slot o ho
    obtain ⟨o'', ho'', r'⟩ := g.order slot o' ho'
    exact ⟨o'', ho'', r.trans r'⟩
  fresh slot o ha hc := by
    cases hb : b.order slot with
    | none => exact g.fresh slot o hb hc
    | some o' =>
      obtain ⟨o'', ho'', r⟩ := g.order slot o' hb
      rw [hc] at ho''; cases ho''
      exact r.unoffered (h.fresh slot o' ha hb)
  yard := h.yard.trans g.yard

/-- Composition, the later change first. -/
theorem Arranges.after {E : Nat → Prop} {a b c : State} (g : Arranges E b c) (h : Arranges E a b) : Arranges E a c :=
  h.trans g

/-- A slot that holds no order, or one that is WAITING, needs no exemption. -/
theorem Arranges.unexempt {E : Nat → Prop} {s t : State} {x : Nat} (h : Arranges (fun j => E j ∨ j = x) s t)
    (hx : ∀ o, s.order x = some o → o.state.isWaiting = true) : Arranges E s t where
  frame := h.frame
  order j o ho := by
    obtain ⟨o', ho', r⟩ := h.order j o ho
    refine ⟨o', ho', r.fields, r.unoffered, r.other, fun n w => r.steady ?_ w⟩
    rintro (he | rfl)
    · exact n he
    · rw [hx o ho] at w; cases w
  fresh := h.fresh
  yard := h.yard

theorem Crane.Offers.refl (r : Crane) : r.Offers r := .inl rfl

theorem Crane.Offers.trans {a b c : Crane} (h : a.Offers b) (g : b.Offers c) : a.Offers c := by
  rcases g with rfl | ⟨hb, hc⟩
  · exact h
  · rcases h with rfl | ⟨_, hb'⟩
    · exact .inr ⟨hb, hc⟩
    · rw [hb'] at hb; cases hb

/-- Over a step of the end of a step, a crane that is newly offered holds its LIFT until the step is over. -/
theorem Settles.holdsLift {s t : State} {c : Nat} (h : Settles s t) (hc : c < Config.cranes) (up : s.link.state = .up)
    (hs : (s.crane c).state = .offered) (hl : s.HoldsLift c) : t.HoldsLift c := by
  obtain ⟨hd, o, dest, ho, hr, htag, hst, hdest, hlift⟩ := hl
  have hcrane : t.crane c = s.crane c := by
    rcases h.crane c with e | ⟨e, _⟩
    · exact e
    · rw [hs] at e; cases e
  obtain ⟨o', hr', q⟩ := h.order _ o hr
  have hq := q.other (by rw [hst]; rfl)
  have hp := (h.posts c hc).lift up (by simp [State.newlyOffered, hs])
  refine ⟨hd, o', dest, by rw [hcrane]; exact ho, hr', by rw [q.fields]; exact htag, hq.1.trans hst, fun l hl => ?_, ?_⟩
  · rcases hq.2.2 with e | e
    · rw [e] at hl; cases hl
    · rw [e] at hl; exact hdest l hl
  · rw [hp, hq.2.1]; exact hlift

/-- A step that touches no slot, no crane, and at most gives a free transmitter a message posts nothing. -/
theorem State.posts_of_quiet {s t : State} (hc : t.cranes = s.cranes) (hs : t.link.slots = s.link.slots)
    (hb : ∀ m, s.link.onBus = some m → t.link.onBus = some m) (c : Nat) :
    s.Posts t c none false (s.newlyOffered t c) := by
  have hn : s.newlyOffered t c = false := by
    rw [State.newlyOffered, State.crane, State.crane, hc]; cases (vget s.cranes c).state <;> rfl
  rw [hn]
  exact ⟨fun _ => by rw [hs]; rfl, fun _ _ => by rw [hs]; rfl, fun _ h => absurd h (by decide),
    fun _ m stale h _ => by simp [hb _ h], fun _ m stale h _ => by simp [hb _ h], fun _ h => by rw [hs]; exact h,
    fun _ h => by simp at h⟩

theorem Settles.refl (s : State) : Settles s s where
  frame := rfl
  order _ o h := ⟨o, h, .refl o⟩
  fresh _ _ h h' := by rw [h] at h'; cases h'
  yard := .refl s
  crane _ := .refl _
  linkState := ⟨rfl, rfl, rfl⟩
  posts c _ := State.posts_of_quiet (t := s) rfl rfl (fun _ => id) c

theorem Settles.trans {a b c : State} (h : Settles a b) (g : Settles b c) : Settles a c where
  frame := by rw [g.frame, h.frame]
  order slot o ho := by
    obtain ⟨o', ho', r⟩ := h.order slot o ho
    obtain ⟨o'', ho'', r'⟩ := g.order slot o' ho'
    exact ⟨o'', ho'', r.trans r'⟩
  fresh slot o ha hc := by
    cases hb : b.order slot with
    | none => exact g.fresh slot o hb hc
    | some o' =>
      obtain ⟨o'', ho'', r⟩ := g.order slot o' hb
      rw [hc] at ho''; cases ho''
      rcases h.fresh slot o' ha hb with u | u
      · exact (r.unoffered u).imp id And.left
      · exact .inr ((r.other (by rw [u]; rfl)).1.trans u)
  yard := h.yard.trans g.yard
  crane c := (h.crane c).trans (g.crane c)
  linkState := ⟨g.linkState.1.trans h.linkState.1, g.linkState.2.1.trans h.linkState.2.1,
    g.linkState.2.2.trans h.linkState.2.2⟩
  posts x hx := by
    have hp := h.posts x hx
    have gp := g.posts x hx
    have up : a.link.state = .up → b.link.state = .up := fun u => h.linkState.1.trans u
    have down : a.link.state ≠ .up → b.link.state ≠ .up := fun u => by rw [h.linkState.1]; exact u
    have hn : a.newlyOffered c x = (a.newlyOffered b x || b.newlyOffered c x) := by
      rcases h.crane x with e | ⟨e, e'⟩
      · rw [State.newlyOffered, State.newlyOffered, State.newlyOffered, e]
        cases (a.crane x).state <;> cases (c.crane x).state <;> rfl
      · have hb : (b.crane x).state = .offered := by rw [e']
        have hc : (c.crane x).state = .offered := by
          rcases g.crane x with f | ⟨f, _⟩
          · rw [f]; exact hb
          · rw [hb] at f; cases f
        simp [State.newlyOffered, e, hb, hc]
    have hb : a.newlyOffered b x = true → (b.crane x).state = .offered := by
      simp only [State.newlyOffered, Bool.and_eq_true, beq_iff_eq]; exact And.right
    rw [hn]
    refine ⟨fun u => ?_, fun u f => ?_, fun u f => ?_, fun u m stale hm hi => ?_, fun u m stale hm hi => ?_,
      fun u hv => ?_, fun u f => ?_⟩
    · rw [gp.control (up u), hp.control u]; rfl
    · rw [Bool.or_eq_false_iff] at f
      have h1 := gp.lift (up u) f.2
      have h2 := hp.lift u f.1
      simp only [Bool.false_eq_true, if_false] at h1 h2 ⊢
      rw [h1, h2]
    · cases h2 : b.newlyOffered c x with
      | true => exact gp.offer (up u) h2
      | false =>
        rw [h2, Bool.or_false] at f
        exact g.holdsLift hx (up u) (hb f) (hp.offer u f)
    · have h1 := hp.busControl u m stale hm hi
      have h2 := gp.busControl (up u) m _ h1 hi
      simpa using h2
    · have h1 := hp.busLift u m stale hm hi
      have h2 := gp.busLift (up u) m _ h1 hi
      simpa [Bool.or_assoc] using h2
    · exact gp.vacant (down u) (hp.vacant u hv)
    · cases h2 : b.newlyOffered c x with
      | true => exact gp.empty (down u) (.inr h2)
      | false =>
        rw [h2, Bool.or_false] at f
        exact gp.vacant (down u) (hp.empty u f)

/-- Composition, the later change first. -/
theorem Settles.after {a b c : State} (g : Settles b c) (h : Settles a b) : Settles a c := h.trans g

theorem Arranges.settles {s t : State} (h : Arranges (fun _ => False) s t) : Settles s t where
  frame := by rw [h.frame]
  order slot o ho := (h.order slot o ho).imp fun _ hr => ⟨hr.1, hr.2.settled⟩
  fresh slot o ha hc := .inl (h.fresh slot o ha hc)
  yard := h.yard
  crane c := by rw [h.frame]; exact .refl _
  linkState := by rw [h.frame]; exact ⟨rfl, rfl, rfl⟩
  posts c _ := by
    have l : t.link = s.link := by rw [h.frame]
    exact State.posts_of_quiet (by rw [h.frame]) (by rw [l]) (fun _ e => by rw [l]; exact e) c

end Sys2Proof.Machine
end

