-- ==== Sys2Proof/Laws/Evaluate.lean ====
section
/-! SUPPORT. Every re-evaluation of a step `Arranges` the state: evaluation, the dig rule, creation, releases and the
causes of R124. -/

namespace Sys2Proof.Machine

variable {E : Nat → Prop}

/-- The order in a slot, if there is one, is not yet offered. -/
def Unoffered (s : State) (slot : Nat) : Prop := ∀ o, s.order slot = some o → o.state.unoffered = true

theorem Arranges.keepsUnoffered {s t : State} {slot : Nat} (h : Arranges E s t) (u : Unoffered s slot) :
    Unoffered t slot := by
  intro o' ho'
  cases hs : s.order slot with
  | none => exact h.fresh slot o' hs ho'
  | some o =>
    obtain ⟨o'', ho'', r⟩ := h.order slot o hs
    rw [ho'] at ho''; cases ho''
    exact r.unoffered (u o hs)

/-- The order in a slot may be moved to any state before its offer: the slot is exempt and the order not yet offered. -/
structure Moves (E : Nat → Prop) (s : State) (slot : Nat) : Prop where
  exempt : E slot
  unoffered : Unoffered s slot

theorem Arranges.keepsMoves {s t : State} {slot : Nat} (h : Arranges E s t) (u : Moves E s slot) : Moves E t slot :=
  ⟨u.exempt, h.keepsUnoffered u.unoffered⟩

/-! ### The updates MS makes -/

theorem block_modBlock_rearranged (s : State) (k : Nat) {f : Block → Block} (hf : ∀ b : Block, b.Rearranged (f b)) (j : Nat) :
    (s.block j).Rearranged ((s.modBlock k f).block j) := by
  rw [State.block_modBlock]; split
  · exact hf _
  · exact .refl _

theorem modBlock_arranges (s : State) (k : Nat) {f : Block → Block}
    (hf : ∀ b : Block, b.Rearranged (f b)) :
    Arranges E s (s.modBlock k f) where
  frame := rfl
  order _ o h := ⟨o, h, .refl o⟩
  fresh _ _ h h' := by rw [State.order_modBlock, h] at h'; cases h'
  yard := { SameYard.refl s with block := block_modBlock_rearranged s k hf }

theorem modBay_arranges (s : State) (b : Nat) {f : Bay → Bay} (hf : (s.bay b).Rearranged (f (s.bay b))) :
    Arranges E s (s.modBay b f) where
  frame := rfl
  order _ o h := ⟨o, h, .refl o⟩
  fresh _ _ h h' := by rw [State.order_modBay, h] at h'; cases h'
  yard := { SameYard.refl s with
    bay := fun j => by
      rw [State.bay_modBay]; split
      · rename_i h; rw [h.1]; exact hf
      · exact .refl _ }

theorem modOrder_arranges (s : State) (slot : Nat) {f : Order → Order}
    (hf : ∀ o, s.order slot = some o → o.Rearranged (E slot) (f o)) : Arranges E s (s.modOrder slot f) where
  frame := rfl
  order j o h := by
    rw [State.order_modOrder]; split
    · rename_i e; subst e; exact ⟨f o, by rw [h]; rfl, hf o h⟩
    · exact ⟨o, h, .refl o⟩
  fresh j o' h h' := by
    rw [State.order_modOrder] at h'; split at h'
    · rename_i e; subst e; rw [h] at h'; cases h'
    · rw [h] at h'; cases h'
  yard := { SameYard.refl s with ordersWf := fun h => tmod_wf _ _ h }

theorem closed_rearranged (b : Block) {l : List Nat} (h : srising b.closed = true → srising l = true) :
    b.Rearranged { b with closed := l } := ⟨rfl, id, id, h, fun _ _ h _ => h⟩

theorem setCell_rearranged (b : Block) (r st t : Nat) {c : Option Cell} (hc : ∀ x, c = some x → x.isReserved = true) :
    b.Rearranged (b.setCell r st t c) where
  fields := rfl
  slots h := by cases c; exacts [tdel_wf _ h, tput_wf _ _ h]
  footprints := id
  closed := id
  made key x hx hr := by
    cases c with
    | none =>
      have hx : tget (tdel b.slots (slotKey r st t)) key = some x := hx
      rw [tget_tdel] at hx; split at hx
      · cases hx
      · exact hx
    | some y =>
      have hx : tget (tput b.slots (slotKey r st t) y) key = some x := hx
      rw [tget_tput] at hx; split at hx
      · cases hx; exact absurd ((hc _ rfl).symm.trans hr) (by decide)
      · exact hx

theorem setFootprint_rearranged (b : Block) (r st : Nat) (f : Option Nat) : b.Rearranged (b.setFootprint r st f) where
  fields := rfl
  slots := id
  footprints h := by cases f; exacts [tdel_wf _ h, tput_wf _ _ h]
  closed := id
  made _ _ h _ := h

theorem reserveSlot_arranges (s : State) (k r st t : Nat) (h : Handle) (f : Nat) :
    Arranges E s (s.reserveSlot k r st t h f) := by
  refine modBlock_arranges s k fun b => ?_
  dsimp only; split
  · exact (setCell_rearranged b r st t fun x hx => by cases hx; rfl).trans (setFootprint_rearranged _ r st _)
  · exact setCell_rearranged b r st t fun x hx => by cases hx; rfl

theorem freeSlot_arranges (s : State) (k r st t : Nat) : Arranges E s (s.freeSlot k r st t) := by
  refine modBlock_arranges s k fun b => ?_
  dsimp only; split
  · exact (setCell_rearranged b r st t fun x hx => by cases hx).trans (setFootprint_rearranged _ r st _)
  · exact setCell_rearranged b r st t fun x hx => by cases hx

theorem released_rearranged {e : Prop} (o : Order) : o.Rearranged e { o with reserved := none } :=
  ⟨rfl, id, fun _ => ⟨rfl, .inl rfl⟩, fun _ _ => ⟨rfl, fun _ => rfl⟩⟩

theorem reserved_rearranged {e : Prop} {o : Order} (l : Option Loc) (he : e) (ho : o.state.unoffered = true) :
    o.Rearranged e { o with reserved := l } :=
  ⟨rfl, id, fun h => absurd (ho.symm.trans h) (by decide), fun n => absurd he n⟩

theorem state_rearranged {e : Prop} {o : Order} {st : OrderState} (ho : o.state.unoffered = true)
    (hst : st.unoffered = true) (he : e ∨ o.state.isWaiting = true) : o.Rearranged e { o with state := st } :=
  ⟨rfl, fun _ => hst, fun h => absurd (ho.symm.trans h) (by decide), fun n w =>
    he.elim (fun he => absurd he n) fun he => absurd (he.symm.trans w) (by decide)⟩

/-! ### Marks, states, reservations -/

@[simp] theorem Work.on_s (f : State → State) (w : Work) : (w.on f).s = f w.s := rfl
@[simp] theorem Work.hand_s (c : Cause) (w : Work) : (w.hand c).s = w.s := rfl
@[simp] theorem Work.wantSelection_s (c : Nat) (w : Work) : (w.wantSelection c).s = w.s := rfl

theorem Work.testMark_arranges (k r st : Nat) (w : Work) : Arranges E w.s (w.testMark k r st).s := by
  unfold Work.testMark; dsimp only; split
  · exact modBlock_arranges _ _ fun b => closed_rearranged b (srising_sinsert _)
  · split
    · exact modBlock_arranges _ _ fun b => closed_rearranged b (srising_serase _)
    · exact .refl _

theorem Work.testPick_arranges (o : Order) (w : Work) : Arranges E w.s (w.testPick o).s := by
  unfold Work.testPick; split
  · exact w.testMark_arranges _ _ _
  · exact .refl _

/-- The test of a mark leaves every order record as it is. -/
theorem Work.testPick_order (o : Order) (w : Work) (i : Nat) : (w.testPick o).s.order i = w.s.order i := by
  unfold Work.testPick Work.testMark; split
  · dsimp only; split
    · rfl
    · split <;> rfl
  · rfl

theorem Work.setOrderState_arranges (slot : Nat) {st : OrderState} (w : Work)
    (u : ∀ o, w.s.order slot = some o → o.state.unoffered = true ∧ (E slot ∨ o.state.isWaiting = true))
    (hst : st.unoffered = true) : Arranges E w.s (w.setOrderState slot st).s := by
  unfold Work.setOrderState; split
  · exact .refl _
  · split
    · exact .refl _
    · exact (Work.testPick_arranges _ _).after (modOrder_arranges _ _ fun o ho => state_rearranged (u o ho).1 hst (u o ho).2)

/-- An order that `Moves` may be set to any state before its offer. -/
theorem Work.moveOrder_arranges (slot : Nat) {st : OrderState} (w : Work) (u : Moves E w.s slot)
    (hst : st.unoffered = true) : Arranges E w.s (w.setOrderState slot st).s :=
  w.setOrderState_arranges slot (fun o ho => ⟨u.unoffered o ho, .inl u.exempt⟩) hst

theorem Work.reserve_arranges (slot k r st t : Nat) (w : Work) (u : Moves E w.s slot) : Arranges E w.s (w.reserve slot k r st t).s := by
  unfold Work.reserve; split
  · exact .refl _
  · exact (reserveSlot_arranges _ _ _ _ _ _ _).trans (modOrder_arranges _ _ fun o ho => reserved_rearranged _ u.exempt (u.unoffered o ho))

theorem Work.releaseUp_arranges (n slot : Nat) (w : Work) : Arranges E w.s (w.releaseUp n slot).1.s := by
  induction n generalizing slot w with
  | zero => exact .refl _
  | succ n ih =>
    have hfree : ∀ k r st t, Arranges E w.s ((w.s.freeSlot k r st t).modOrder slot fun o => { o with reserved := none }) :=
      fun k r st t => (freeSlot_arranges _ _ _ _ _).trans (modOrder_arranges _ _ fun o _ => released_rearranged o)
    unfold Work.releaseUp
    split
    · dsimp only
      split
      · split
        · rename_i o ho
          split
          · exact (ih _ _).after (hfree _ _ _ _)
          · split
            · rename_i hw
              refine (Work.setOrderState_arranges _ _ (fun o' ho' => ?_) rfl).after (hfree _ _ _ _)
              rw [ho] at ho'; cases ho'; rw [hw]; exact ⟨rfl, .inr rfl⟩
            · exact hfree _ _ _ _
        · exact hfree _ _ _ _
      · exact hfree _ _ _ _
    · exact .refl _

/-! ### Evaluation -/

theorem Work.queueOrder_arranges (slot : Nat) (w : Work) (u : Moves E w.s slot) :
    Arranges E w.s (w.queueOrder slot).s := by
  unfold Work.queueOrder; split
  · exact .refl _
  · exact w.moveOrder_arranges slot u rfl

theorem Work.baseCheck_arranges (slot : Nat) (w : Work) (u : Moves E w.s slot) :
    Arranges E w.s (w.baseCheck slot).s := by
  unfold Work.baseCheck; split
  · split
    · exact w.queueOrder_arranges slot u
    · exact w.moveOrder_arranges slot u rfl
  · exact w.queueOrder_arranges slot u

theorem Work.reserve_baseCheck_arranges (slot k r st t : Nat) (w : Work) (u : Moves E w.s slot) :
    Arranges E w.s ((w.reserve slot k r st t).baseCheck slot).s :=
  have h := w.reserve_arranges slot k r st t u
  h.trans (Work.baseCheck_arranges _ _ (h.keepsMoves u))

theorem Work.claim_arranges (slot : Nat) (o : Order) (p : Piece) (w : Work) (u : Moves E w.s slot) :
    Arranges E w.s (w.claim slot o p).s := by
  unfold Work.claim; split
  · exact w.baseCheck_arranges slot u
  · split
    · exact w.reserve_baseCheck_arranges _ _ _ _ _ u
    · exact w.moveOrder_arranges slot u rfl
  · split
    · exact w.reserve_baseCheck_arranges _ _ _ _ _ u
    · exact w.moveOrder_arranges slot u rfl
  · split
    · rename_i b _ _ hb
      have hroom : (w.s.bay b).count < Config.bayRoom := by simp only [Bool.and_eq_true, decide_eq_true_eq] at hb; exact hb.2
      have h := (modBay_arranges (E := E) w.s b (f := fun r => { r with count := r.count + 1 })
        ⟨rfl, fun _ => by simp only; omega⟩).trans
        (modOrder_arranges _ slot (f := fun o => { o with reserved := some (.bay b) }) fun o ho => reserved_rearranged _ u.exempt (u.unoffered o ho))
      exact (Work.queueOrder_arranges _ _ (h.keepsMoves u)).after h
    · exact w.moveOrder_arranges slot u rfl

theorem Work.evaluateWith_arranges {release : Nat → Work → Work} {dig : Nat → Order → Work → Work}
    (hrelease : ∀ slot w, Arranges E w.s (release slot w).s)
    (hdig : ∀ slot o w, Moves E w.s slot → Arranges E w.s (dig slot o w).s) (slot : Nat) (w : Work)
    (u : Moves E w.s slot) : Arranges E w.s (w.evaluateWith release dig slot).s := by
  unfold Work.evaluateWith; split
  · exact .refl _
  · rename_i o ho
    split
    · exact .refl _
    · rename_i p _
      dsimp only
      split
      · exact (hrelease slot _).after
          (Work.moveOrder_arranges slot (st := .waiting .notLiftable) { w with under := slot :: w.under } u rfl)
      · split
        · have hst : (if o.state = .waiting .digBlocked then o.state else OrderState.waiting .buried).unoffered = true := by
            split
            · exact u.unoffered o ho
            · rfl
          have h := (hrelease slot _).after (Work.moveOrder_arranges slot { w with under := slot :: w.under } u hst)
          split
          · exact h
          · exact h.trans (hdig _ _ _ (h.keepsMoves u))
        · exact Work.claim_arranges slot o p { w with under := slot :: w.under } u

theorem noRelease_arranges (slot : Nat) (w : Work) : Arranges E w.s (noRelease slot w).s := .refl _

theorem noDig_arranges (slot : Nat) (o : Order) (w : Work) (_ : Moves E w.s slot) : Arranges E w.s (noDig slot o w).s :=
  .refl _

/-! ### Creation -/

theorem freeRecord_isFree {s : State} {slot : Nat} (h : s.freeRecord = some slot) : s.order slot = none := by
  have := List.find?_some h
  simpa using this

/-- The state a creation writes before its evaluation (R118, steps 1 to 3). -/
theorem newRecord_arranges (s : State) (slot tag n : Nat) (o : Order) (hfree : s.order slot = none)
    (ho : o.state.unoffered = true) (hp : ∀ p, s.piece o.piece = some p → p.order = none) (hn : n < Config.count32)
    (htag : tag < 256) :
    Arranges E s (({ s with
      tags := vset s.tags slot tag
      counter := n
      orders := tput s.orders slot o } : State).modPiece o.piece fun p => { p with order := some ⟨slot, tag⟩ }) where
  frame := rfl
  order j q h := by
    refine ⟨q, ?_, .refl q⟩
    have : j ≠ slot := fun e => by rw [e, hfree] at h; cases h
    exact (tget_tput_ne _ _ this).trans h
  fresh j q h h' := by
    have h'' : tget (tput s.orders slot o) j = some q := h'
    rw [tget_tput] at h''; split at h''
    · cases h''; exact ho
    · rw [show tget s.orders j = none from h] at h''; cases h''
  yard := {
    SameYard.refl s with
    piece := fun id p h => by
      rw [State.piece_modPiece]; split
      · rename_i e; subst e
        refine ⟨{ p with order := some ⟨slot, tag⟩ }, congrArg (Option.map _) h, rfl, fun u => ?_⟩
        rw [hp p h] at u; cases u
      · exact ⟨p, h, .refl p⟩
    noPiece := fun id h => by
      rw [State.piece_modPiece]; split
      · rename_i e; subst e; exact congrArg (Option.map _) h
      · exact h
    piecesWf := fun h => tmod_wf _ _ h
    ordersWf := fun h => tput_wf _ _ h
    counter := fun _ => hn
    tags := fun h i hi => by
      show vget (vset s.tags slot tag) i < 256
      rw [vget_vset]; split
      · exact htag
      · exact h i hi }

theorem Work.createWith_arranges {ev : Nat → Work → Work}
    (hev : ∀ (E : Nat → Prop) slot w, Moves E w.s slot → Arranges E w.s (ev slot w).s) (proto : Order) (w : Work)
    (ho : proto.state.unoffered = true) (hp : ∀ p, w.s.piece proto.piece = some p → p.order = none) :
    Arranges E w.s (w.createWith ev proto).1.s := by
  unfold Work.createWith; split
  · exact .refl _
  · rename_i slot hslot
    dsimp only
    have hfree := freeRecord_isFree hslot
    refine Arranges.unexempt (x := slot) ?_ fun o h => by rw [hfree] at h; cases h
    have hnew := newRecord_arranges (E := fun j => E j ∨ j = slot) w.s slot ((vget w.s.tags slot + 1) % 256)
      ((w.s.counter + 1) % Config.count32)
      { proto with tag := (vget w.s.tags slot + 1) % 256, sequence := w.s.counter } hfree ho hp
      (Nat.mod_lt _ (by decide)) (Nat.mod_lt _ (by decide))
    have u : Moves (fun j => E j ∨ j = slot) w.s slot := ⟨.inr rfl, fun o h => by rw [hfree] at h; cases h⟩
    split
    · exact hnew
    · split
      · have h := fun k r st t => (Work.reserve_arranges slot k r st t (w.on fun s => ({ s with
            tags := vset s.tags slot ((vget w.s.tags slot + 1) % 256)
            counter := (s.counter + 1) % Config.count32
            orders := tput s.orders slot
              { proto with tag := (vget w.s.tags slot + 1) % 256, sequence := w.s.counter } } : State).modPiece proto.piece
                fun p => { p with order := some ⟨slot, (vget w.s.tags slot + 1) % 256⟩ })
                  (hnew.keepsMoves u)).after hnew
        exact (hev _ _ _ ((h _ _ _ _).keepsMoves u)).after (h _ _ _ _)
      · exact (hev _ _ _ (hnew.keepsMoves u)).after hnew

theorem Work.createRehandle_arranges {parent : Nat} {po : Order} {x : SlotRef} {id : Nat} {p : Piece} {w w' : Work}
    (hp : w.s.piece id = some p) (hfree : p.order = none) (h : w.createRehandle parent po x id p = some w') :
    Arranges E w.s w'.s := by
  unfold Work.createRehandle at h; dsimp only at h; split at h
  · cases h
    exact Work.createWith_arranges (fun _ s w u => Work.evaluateWith_arranges noRelease_arranges noDig_arranges s w u) _ w rfl
      fun q hq => by rw [show w.s.piece id = some q from hq] at hp; cases hp; exact hfree
  · cases h

theorem Work.digTiers_arranges (parent : Nat) (po : Order) (x : SlotRef) (l : List Nat) (w : Work) :
    Arranges E w.s (w.digTiers parent po x l).1.s := by
  induction l generalizing w with
  | nil => exact .refl _
  | cons t rest ih =>
    unfold Work.digTiers; split
    · split
      · exact ih w
      · rename_i p hp
        split
        · exact ih w
        · rename_i hfree
          split
          · rename_i w' hw'
            exact (Work.createRehandle_arranges hp (by simpa using hfree) hw').trans (ih w')
          · exact .refl _
    · exact ih w

theorem Work.digPass_arranges (slot : Nat) (o : Order) (w : Work) (u : Moves E w.s slot) :
    Arranges E w.s (w.digPass slot o).s := by
  unfold Work.digPass; split
  · exact .refl _
  · rename_i x _
    have h := w.digTiers_arranges (E := E) slot o x ((w.s.block x.block).above x.tier).reverse
    refine h.trans (Work.moveOrder_arranges _ _ (h.keepsMoves u) ?_)
    split <;> rfl

/-! ### Releases and re-searches (R103, R123, R125) -/

theorem waiting_isWaiting {st : OrderState} {r : WaitReason} (h : st = .waiting r) : st.isWaiting = true := by rw [h]; rfl

theorem isWaiting_unoffered {st : OrderState} (h : st.isWaiting = true) : st.unoffered = true := by
  cases st <;> first | rfl | cases h

/-- An order that is WAITING moves, its slot exempt or not. -/
theorem moves_of_waiting {s : State} {slot : Nat} (h : ∀ o, s.order slot = some o → o.state.isWaiting = true) :
    Moves (fun j => E j ∨ j = slot) s slot := ⟨.inr rfl, fun o ho => isWaiting_unoffered (h o ho)⟩

theorem foldl_arranges {β : Type} {f : Work → β → Work} (hf : ∀ w b, Arranges E w.s (f w b).s) (l : List β) (w : Work) :
    Arranges E w.s (l.foldl f w).s := by
  induction l generalizing w with
  | nil => exact .refl _
  | cons b _ ih => exact (hf w b).trans (ih _)

theorem Work.searchAgain_arranges (slot : Nat) (w : Work) : Arranges E w.s (w.searchAgain slot).s := by
  unfold Work.searchAgain; split
  · rename_i o ho
    split
    · rename_i h
      have hw : ∀ o, w.s.order slot = some o → o.state.isWaiting = true := fun o' ho' => by
        rw [ho] at ho'; cases ho'; exact waiting_isWaiting h.1
      exact (Work.evaluateWith_arranges noRelease_arranges (fun slot o w u => w.digPass_arranges slot o u) slot w
        (moves_of_waiting hw)).unexempt hw
    · exact .refl _
  · exact .refl _

@[simp] theorem Work.handFreed_s (l : List SlotRef) (w : Work) : (w.handFreed l).s = w.s := by
  unfold Work.handFreed
  induction l generalizing w with
  | nil => rfl
  | cons _ _ ih => exact ih _

theorem Work.searchFrom_arranges (n : Nat) (x : SlotRef) (slots : List Nat) (w : Work) :
    Arranges E w.s (w.searchFrom n x slots).s := by
  induction n generalizing x slots w with
  | zero => exact .refl _
  | succ n ih =>
    unfold Work.searchFrom
    have h := foldl_arranges (E := E) (fun w i => w.searchAgain_arranges i) slots w
    dsimp only
    split
    · exact h
    · rename_i i t rest _
      have hr := Work.releaseUp_arranges (E := E) 8 i (slots.foldl (fun w i => w.searchAgain i) w)
      generalize Work.releaseUp 8 i (slots.foldl (fun w i => w.searchAgain i) w) = y at hr
      obtain ⟨w', freed, again⟩ := y
      refine (ih _ _ _).after ?_
      rw [Work.handFreed_s]; exact h.trans hr

theorem Work.searchReleased_arranges (w : Work) : Arranges E w.s w.searchReleased.s := by
  unfold Work.searchReleased
  generalize 8 = n
  exact foldl_arranges (f := fun w e => w.searchFrom n e.1 e.2) (fun w e => w.searchFrom_arranges n e.1 e.2) w.released
    { w with released := [] }

@[simp] theorem Work.slotsFree_s (freed : List SlotRef) (again : List Nat) (w : Work) :
    (w.slotsFree freed again).s = w.s := by
  unfold Work.slotsFree; split
  · rfl
  · exact Work.handFreed_s _ _

@[simp] theorem Work.slotFree_s (x : SlotRef) (w : Work) : (w.slotFree x).s = w.s := w.slotsFree_s _ _

theorem Work.releaseStock_arranges (slot : Nat) (w : Work) : Arranges E w.s (w.releaseStock slot).s := by
  unfold Work.releaseStock
  have h := w.releaseUp_arranges (E := E) 8 slot
  generalize w.releaseUp 8 slot = x at h
  obtain ⟨w', freed, again⟩ := x
  rw [Work.slotsFree_s]; exact h

theorem Work.releaseClaim_arranges (slot : Nat) (w : Work) : Arranges E w.s (w.releaseClaim slot).s := by
  unfold Work.releaseClaim; split
  · exact w.releaseStock_arranges slot
  · exact (modBay_arranges _ _ ⟨rfl, fun h => by simp only; omega⟩).trans
      (modOrder_arranges _ _ fun o _ => released_rearranged o)
  · exact .refl _

theorem Work.releaseUnkept_arranges (slot : Nat) (w : Work) : Arranges E w.s (w.releaseUnkept slot).s := by
  unfold Work.releaseUnkept; split
  · exact .refl _
  · exact w.releaseClaim_arranges slot

/-- Everything an evaluation (R122) can do, where its order may move. -/
theorem Work.evaluate_arranges (slot : Nat) (w : Work) (u : Moves E w.s slot) : Arranges E w.s (w.evaluate slot).s :=
  (Work.evaluateWith_arranges (fun slot w => (Work.searchReleased_arranges _).after (w.releaseUnkept_arranges slot))
    (fun slot o w u => w.digPass_arranges slot o u) slot _ (w.searchReleased_arranges.keepsMoves u)).after
      w.searchReleased_arranges

/-- A creation (R118) arranges the state, where the piece is bound to no order. -/
theorem Work.create_arranges (proto : Order) (w : Work) (ho : proto.state.unoffered = true)
    (hp : ∀ p, w.s.piece proto.piece = some p → p.order = none) : Arranges E w.s (w.create proto).1.s :=
  Work.createWith_arranges (fun _ slot w u => w.evaluate_arranges slot u) proto w ho hp

/-! ### Causes (R124) -/

theorem blockConcerns_isWaiting {s : State} {k : Nat} {o : Order} (h : s.blockConcerns k o = true) :
    o.state.isWaiting = true := by
  simp only [State.blockConcerns, Bool.or_eq_true, Bool.and_eq_true, beq_iff_eq] at h
  rcases h with h | h <;> exact waiting_isWaiting h.1

/-- Every order a cause concerns is waiting (R124). -/
theorem concerns_isWaiting {s : State} {c : Cause} {slot : Nat} {o : Order} (h : s.concerns c slot o = true) :
    o.state.isWaiting = true := by
  cases c <;> simp only [State.concerns, Bool.or_eq_true, Bool.and_eq_true, beq_iff_eq] at h
  all_goals first
    | exact blockConcerns_isWaiting h
    | exact waiting_isWaiting h
    | exact waiting_isWaiting h.1
    | exact waiting_isWaiting h.1.2
    | (rcases h with h | h <;> first | exact waiting_isWaiting h.1 | exact blockConcerns_isWaiting h)
    | (rcases h.1 with h | h <;> exact waiting_isWaiting h)
    | (rcases h.2 with h | h <;> exact waiting_isWaiting h)

theorem Work.evaluateFor_arranges (c : Cause) (exempt : List Nat) (slot : Nat) (w : Work) :
    Arranges E w.s (w.evaluateFor c exempt slot).s := by
  unfold Work.evaluateFor; split
  · rename_i o ho
    split
    · rename_i h
      simp only [Bool.and_eq_true] at h
      have hw : ∀ o, w.s.order slot = some o → o.state.isWaiting = true := fun o' ho' => by
        rw [ho] at ho'; cases ho'; exact concerns_isWaiting h.2
      exact (w.evaluate_arranges slot (moves_of_waiting hw)).unexempt hw
    · exact .refl _
  · exact .refl _

theorem mem_insertBy {α : Type} (f : α → Nat) (x y : α) (l : List α) : y ∈ insertBy f x l ↔ y = x ∨ y ∈ l := by
  induction l with
  | nil => simp [insertBy]
  | cons a rest ih => simp only [insertBy]; split <;> simp [ih]; tauto

@[simp] theorem mem_orderBy {α : Type} (f : α → Nat) (y : α) (l : List α) : y ∈ orderBy f l ↔ y ∈ l := by
  induction l with
  | nil => simp [orderBy]
  | cons a rest ih =>
    have : orderBy f (a :: rest) = insertBy f a (orderBy f rest) := rfl
    rw [this, mem_insertBy, ih]; simp

/-- A cell of the order table that is listed under a slot is what the slot holds, where the table has its form. -/
theorem tget_of_mem {α : Type} {t : Table α} {k : Nat} {v : α} (hm : (k, v) ∈ t) (hw : twf t = true) :
    tget t k = some v := by
  have aux : ∀ (t : Table α) (lo : Option Nat), risingFrom lo t = true → (k, v) ∈ t →
      tget t k = some v ∧ lo.all (· < k) = true := by
    intro t
    induction t with
    | nil => intro _ _ h; cases h
    | cons e rest ih =>
      obtain ⟨j, u⟩ := e
      intro lo h hm
      simp only [risingFrom, Bool.and_eq_true] at h
      rcases List.mem_cons.1 hm with he | hm
      · cases he; exact ⟨by simp [tget], h.1⟩
      · have := ih (some j) h.2 hm
        simp only [Option.all_some, decide_eq_true_eq] at this
        refine ⟨by simp [tget, Nat.ne_of_lt this.2, this.1], ?_⟩
        cases lo with
        | none => rfl
        | some i => simp only [Option.all_some, decide_eq_true_eq] at h ⊢; omega
  exact (aux t none hw hm).1

end Sys2Proof.Machine
end

