-- ==== Sys2Proof/Laws/Finish.lean ====
section
/-! SUPPORT. The end of a step of MS `Settles` the state: the causes taken, the selections made, the transmitter's offer. -/

namespace Sys2Proof.Machine

variable {E : Nat → Prop}

/-- A listed record is the record of its slot. -/
theorem mem_records {s : State} {e : Nat × Order} (h : e ∈ s.records) : s.order e.1 = some e.2 := by
  simp only [State.records, List.mem_filterMap, List.mem_range, Option.map_eq_some_iff] at h
  obtain ⟨i, _, o, ho, rfl⟩ := h
  exact ho

/-! ### Causes -/

theorem Work.takeCause_arranges (c : Cause) (exempt : List Nat) (w : Work) :
    Arranges E w.s (w.takeCause c exempt).s :=
  foldl_arranges (fun w slot => w.evaluateFor_arranges _ exempt slot) _ w

theorem Work.drain_arranges (n : Nat) (w : Work) : Arranges E w.s (w.drain n).s := by
  induction n generalizing w with
  | zero => exact .refl _
  | succ n ih =>
    unfold Work.drain; split
    · exact .refl _
    · rename_i c exempt rest _
      exact (ih _).after (Work.takeCause_arranges c exempt { w with causes := rest } :)

/-! ### Selection and offer -/

theorem modLink_settles (s : State) {f : Link → Link}
    (hf : (f s.link).state = s.link.state ∧ (f s.link).rate = s.link.rate ∧ (f s.link).wait = s.link.wait)
    (hs : (f s.link).slots = s.link.slots) (hb : ∀ m, s.link.onBus = some m → (f s.link).onBus = some m) :
    Settles s (s.modLink f) where
  frame := rfl
  order _ o h := ⟨o, h, .refl o⟩
  fresh _ _ h h' := by rw [State.order_modLink, h] at h'; cases h'
  yard := { SameYard.refl s with }
  crane _ := .refl _
  linkState := hf
  posts c _ := State.posts_of_quiet (s := s) (t := s.modLink f) rfl hs hb c

theorem modOrder_settles (s : State) (slot : Nat) {f : Order → Order}
    (hf : ∀ o, s.order slot = some o → o.Settled (f o)) : Settles s (s.modOrder slot f) where
  frame := rfl
  order j o h := by
    rw [State.order_modOrder]; split
    · rename_i e; subst e; exact ⟨f o, by rw [h]; rfl, hf o h⟩
    · exact ⟨o, h, .refl o⟩
  fresh j o' h h' := by
    rw [State.order_modOrder] at h'; split at h'
    · rename_i e; subst e; rw [h] at h'; cases h'
    · rw [h] at h'; cases h'
  yard := { SameYard.refl s with ordersWf := fun h => tmod_wf _ _ h }
  crane _ := .refl _
  linkState := ⟨rfl, rfl, rfl⟩
  posts c _ := State.posts_of_quiet (s := s) (t := s.modOrder slot f) rfl rfl (fun _ => id) c

theorem placeLift_linkState (c : Nat) (x : Lift) (l : Link) : (l.placeLift c x).state = l.state ∧
    (l.placeLift c x).rate = l.rate ∧ (l.placeLift c x).wait = l.wait := by
  unfold Link.placeLift; split <;> exact ⟨rfl, rfl, rfl⟩

theorem offerBus_linkState (l : Link) : l.offerBus.state = l.state ∧ l.offerBus.rate = l.rate ∧
    l.offerBus.wait = l.wait := by
  unfold Link.offerBus; split <;> exact ⟨rfl, rfl, rfl⟩

theorem offerBus_slots (l : Link) : l.offerBus.slots = l.slots := by unfold Link.offerBus; split <;> rfl

theorem offerBus_onBus (l : Link) (m : TxMessage × Bool) (h : l.onBus = some m) : l.offerBus.onBus = some m := by
  unfold Link.offerBus; rw [if_neg (by rw [h]; simp)]; exact h

/-- On an UP link a LIFT placed for a crane stands in its instruction slot alone, and outdates that crane's LIFT on the
bus (R194). -/
theorem placeLift_up (c : Nat) (x : Lift) {l : Link} (up : l.state = .up) :
    (∀ j < 4, vget (l.placeLift c x).slots j = if j = c then { vget l.slots j with lift := some x } else vget l.slots j)
    ∧ ∀ m stale, l.onBus = some (m, stale) → (l.placeLift c x).onBus = some (m, stale || m.ident == 0x100 + c) := by
  unfold Link.placeLift; rw [if_pos up]
  refine ⟨fun j hj => ?_, fun m stale h => ?_⟩
  · show vget (vmod l.slots c _) j = _
    rw [vget_vmod]
    by_cases h : j = c
    · subst h; simp [hj]
    · simp [h]
  · simp [Link.outdate, h]

theorem placeLift_down (c : Nat) (x : Lift) {l : Link} (down : l.state ≠ .up) (j : Nat) :
    vget (l.placeLift c x).slots j = {} := by
  unfold Link.placeLift; rw [if_neg down]
  by_cases h : j < 4
  · exact vget_replicate _ h
  · exact vget_of_le _ (by omega)

/-- An IDLE crane is OFFERED the order of a record that is OFFERED, and gets its LIFT (R153). -/
theorem offerCrane_settles (s : State) (c : Nat) (h : Handle) (o : Order) (ho : s.order h.slot = some o)
    (htag : o.tag = h.tag) (hst : o.state = .offered) (hc : (s.crane c).state = .idle) :
    Settles s ((s.modCrane c fun r =>
      { r with state := .offered, order := some h, acceptTimer := 2, resent := false, hooked := false }).modLink
        (Link.placeLift c (o.lift h.slot))) where
  frame := rfl
  order _ o h := ⟨o, h, .refl o⟩
  fresh j _ h h' := by
    rw [show ((s.modCrane c _).modLink _).order j = s.order j from rfl, h] at h'; cases h'
  yard := { SameYard.refl s with }
  crane j := by
    rw [show ((s.modCrane c _).modLink _).crane j = (s.modCrane c _).crane j from rfl, State.crane_modCrane]; split
    · rename_i e; rw [e.1]; exact .inr ⟨hc, rfl⟩
    · exact .refl _
  linkState := placeLift_linkState _ _ _
  posts j hj := by
    have hcrane : ((s.modCrane c fun r =>
        { r with state := .offered, order := some h, acceptTimer := 2, resent := false, hooked := false }).modLink
          (Link.placeLift c (o.lift h.slot))).crane j = if j = c then { s.crane j with
            state := .offered, order := some h, acceptTimer := 2, resent := false, hooked := false } else s.crane j := by
      rw [show ((s.modCrane c _).modLink _).crane j = (s.modCrane c _).crane j from rfl, State.crane_modCrane]
      by_cases e : j = c
      · subst e; simp [show j < 4 from hj]
      · simp [e]
    have hn : s.newlyOffered ((s.modCrane c fun r =>
        { r with state := .offered, order := some h, acceptTimer := 2, resent := false, hooked := false }).modLink
          (Link.placeLift c (o.lift h.slot))) j = (j == c) := by
      rw [State.newlyOffered, hcrane]
      by_cases e : j = c
      · subst e; simp [hc]
      · rw [if_neg e, beq_false_of_ne e]; cases (s.crane j).state <;> rfl
    rw [hn]
    have hslot := fun up => (placeLift_up c (o.lift h.slot) (l := s.link) up).1 j hj
    have hbus := fun up => (placeLift_up c (o.lift h.slot) (l := s.link) up).2
    refine ⟨fun up => ?_, fun up e => ?_, fun up e => ?_, fun up m stale hm hi => ?_, fun up m stale hm hi => ?_,
      fun down _ => placeLift_down c _ down j, fun down _ => placeLift_down c _ down j⟩
    · show (vget (s.link.placeLift c (o.lift h.slot)).slots j).control = _
      rw [hslot up]; split <;> rfl
    · show (vget (s.link.placeLift c (o.lift h.slot)).slots j).lift = _
      rw [hslot up, if_neg (by simpa using e)]; rfl
    · have e : j = c := by simpa using e
      refine ⟨h, o, o.reserved.getD .none, by rw [hcrane, if_pos e], ho, htag, hst, fun l hl => by simp [Option.mem_def.1 hl], ?_⟩
      show (vget (s.link.placeLift c (o.lift h.slot)).slots j).lift = _
      rw [hslot up, if_pos e, ← htag]; rfl
    · refine (hbus up m stale hm).trans ?_
      have : (m.ident == 0x100 + c) = false := by
        rw [hi]; exact beq_false_of_ne (by change j < 4 at hj; omega)
      simp [this]
    · refine (hbus up m stale hm).trans ?_
      rw [hi]
      by_cases e : j = c
      · subst e; simp
      · rw [beq_false_of_ne e, beq_false_of_ne (by omega : 0x100 + j ≠ 0x100 + c)]; simp

theorem Work.offer_settles (c slot : Nat) (o : Order) (w : Work) (ho : w.s.order slot = some o)
    (hq : o.state = .queued) (hr : o.retry = none) (hc : (w.s.crane c).state = .idle) : Settles w.s (w.offer c slot o).s := by
  unfold Work.offer; dsimp only
  generalize ((w.s.piece o.piece).map (·.loc)).getD .none = source
  have hu : o.state.unoffered = true := by rw [hq]; rfl
  have hread : (w.on (State.modOrder slot fun o => { o with source := source })).s.order slot =
      some { o with source := source } := by
    rw [Work.on_s, State.order_modOrder_self, ho]; rfl
  have hset : ((w.on (State.modOrder slot fun o => { o with source := source })).setOrderState slot .offered) =
      ((w.on (State.modOrder slot fun o => { o with source := source })).on
        (State.modOrder slot fun o => { o with state := .offered })).testPick { o with source := source } := by
    unfold Work.setOrderState; rw [hread]; dsimp only
    rw [if_neg (by rw [hq]; simp)]
  have hst : Settles w.s ((w.on (State.modOrder slot fun o => { o with source := source })).setOrderState slot
      .offered).s := by
    rw [hset]
    refine ((Work.testPick_arranges _ _).settles).after ?_
    refine (modOrder_settles _ slot ?_).after (modOrder_settles w.s slot ?_)
    · intro p hp
      have he : p = { o with source := source } := Option.some.inj (hp.symm.trans hread)
      subst he
      exact ⟨rfl, fun _ => .inr ⟨rfl, hr⟩, fun u => absurd (hu.symm.trans u) (by decide), fun _ => .inr ⟨hq, rfl⟩⟩
    · intro p hp
      rw [ho] at hp; cases hp
      exact ⟨rfl, .inl, fun u => absurd (hu.symm.trans u) (by decide), fun _ => .inl ⟨rfl, id⟩⟩
  have hrec : ((w.on (State.modOrder slot fun o => { o with source := source })).setOrderState slot .offered).s.order
      slot = some { o with source := source, state := .offered } := by
    rw [hset, Work.testPick_order, Work.on_s, State.order_modOrder_self, hread]; rfl
  have hcr : ((w.on (State.modOrder slot fun o => { o with source := source })).setOrderState slot .offered).s.cranes =
      w.s.cranes := by
    rw [hset, (Work.testPick_arranges (E := fun _ => False) _ _).frame]; rfl
  exact (offerCrane_settles _ c (o.handle slot) { o with source := source, state := .offered } hrec rfl rfl
    (by rw [State.crane, hcr]; exact hc)).after hst

theorem selected_spec {s : State} {c slot : Nat} {o : Order} (h : s.selected c = some (slot, o)) :
    s.order slot = some o ∧ s.isCandidate c o = true := by
  have hm : (slot, o) ∈ orderBy (fun e : Nat × Order => e.2.rank) (s.records.filter fun e => s.isCandidate c e.2) :=
    List.mem_of_mem_head? (by rw [State.selected] at h; rw [h]; rfl)
  simp only [mem_orderBy, List.mem_filter] at hm
  exact ⟨mem_records hm.1, hm.2⟩

theorem isCandidate_spec {s : State} {c : Nat} {o : Order} (h : s.isCandidate c o = true) :
    o.state = .queued ∧ o.retry = none := by
  simp only [State.isCandidate, Bool.and_eq_true, beq_iff_eq, Option.isNone_iff_eq_none] at h
  exact ⟨h.1.1.1, h.1.2⟩

theorem Work.selectFor_settles (c : Nat) (w : Work) : Settles w.s (w.selectFor c).s := by
  unfold Work.selectFor; split
  · rename_i hc
    split
    · rename_i slot o h
      have hs := selected_spec h
      exact w.offer_settles c slot o hs.1 (isCandidate_spec hs.2).1 (isCandidate_spec hs.2).2 hc.1
    · exact .refl _
  · exact .refl _

theorem foldl_settles {β : Type} {f : Work → β → Work} (hf : ∀ w b, Settles w.s (f w b).s) (l : List β) (w : Work) :
    Settles w.s (l.foldl f w).s := by
  induction l generalizing w with
  | nil => exact .refl _
  | cons b _ ih => exact (hf w b).trans (ih _)

theorem Work.rounds_settles (n : Nat) (w : Work) : Settles w.s (w.rounds n).s := by
  induction n generalizing w with
  | zero => exact (w.drain_arranges _).settles
  | succ n ih =>
    have hd := (w.drain_arranges Config.chainBound).settles
    unfold Work.rounds; dsimp only; split
    · exact hd
    · exact (ih _).after ((foldl_settles (fun w c => w.selectFor_settles c) _
        { w.drain Config.chainBound with select := [] }).after hd)

/-- Everything the end of a step of MS can do (R118, R124, R130, R195). -/
theorem Work.finish_settles (w : Work) : Settles w.s w.finish :=
  (modLink_settles _ (offerBus_linkState _) (offerBus_slots _) (offerBus_onBus _)).after
    ((w.searchReleased.rounds_settles 8).after w.searchReleased_arranges.settles)

end Sys2Proof.Machine
end

