-- ==== Sys2Proof/WellFormed.lean ====
section
/-! DEFINITION. Which terms of Instr stand for a command or event that can arise. Most operands are bit fields of their
layout's own width, so that every term with them can arise; the checks are on the rest. -/

namespace Sys2Proof

/-- Whether a term can arise: the scope and outcome words of the rows that log 24 gives them to, the headers of the two
rows that answer a frame by its header (R184, R185), and the lengths of a CAN frame (section 11.3). -/
def wellFormed : Instr → Bool
  | .purgeAll scope => scope ≠ 2
  | .confirmLiftAtSource _ outcome => outcome ≠ 2 && outcome ≠ 3
  | .unknownKind header => frameCheck header == .unknownKind
  | .badLength header => frameCheck header == .badLength
  | .frameReceived f => f.data.length ≤ 8 && (f.extended || f.ident.toNat < 2048)
  | _ => true

end Sys2Proof
end

