-- ==== Sys2Proof/Tests/Slice0.lean ====
section
/-! SUPPORT. The model's own tests: ill-formed terms refused, frames written out from section 11.5.3 decoded, small steps
with results taken from the manual's rules, and for each statement with hypotheses a state and operands that meet them. -/

namespace Sys2Proof.Tests
set_option Elab.async false
open Sys2Proof Sys2Proof.Machine

/-! ### Small states -/

/-- The state after a step; the state before where there is none. -/
def after (c : Instr) (s : State) : State :=
  match exec c s with
  | .next t => t
  | .fault _ => s
  | .refused _ => s

/-- A loaded mix: curve from 0 strength to 70, gates at 20, 40 and 60. -/
def mixA : Mix :=
  { loaded := true, inUse := 3, t0 := -100, tmax := 650, limit := 3, strip := 20, release := 40, dispatch := 60
    curve := #v[(0, 0), (100, 10), (200, 20), (300, 30), (400, 40), (500, 50), (600, 60), (700, 70)] }

/-- A LIFTABLE piece with strength 65 at a location, bound to an order or to none. -/
def pieceAt (l : Loc) (q : Quality) (h : Option Handle) : Piece :=
  { mark := 7, loc := l, stage := .liftable, quality := q, castTime := some 10, creditStart := some 10, maturity := 650,
    strength := 65, gateStrip := true, gateRelease := true, gateDispatch := true, order := h }

/-- A piece curing at B0, position 0. -/
def curing : Piece :=
  { loc := .bed 0 0, stage := .curing, castTime := some 10, creditStart := some 10 }

/-- An order of piece `id` for crane 0 with tag 5. -/
def orderOf (id : Nat) (st : OrderState) (d : Dest) : Order :=
  { tag := 5, sequence := 1, kind := .move, origin := .host, piece := id, cls := 1, key := 0, crane := 0, dest := d,
    state := st }

/-- A yard: mix 0 loaded, block 0 of two rows, two stacks and two tiers with piece 4 in it and one slot OUT, piece 5 at bay
0, crane 0 IDLE with everything in reach, plant time 1000 in PRODUCTION. -/
def yard : State :=
  { State.reset with
    mode := .production
    time := 1000
    mixes := Vector.replicate 16 mixA
    pieces := [(4, pieceAt (.stock 0 0 0 0) .released none), (5, pieceAt (.bay 0) .released none)]
    blocks := vset (Vector.replicate 4 {}) 0
      { defined := true, rows := 2, perRow := 2, tiers := 2, footprints := [(0, 0)]
        slots := [(slotKey 0 0 0, .occupied 4), (slotKey 1 1 1, .out)] }
    bays := vset (Vector.replicate 4 {}) 0 { count := 1, pieces := [5] }
    cranes := vset (Vector.replicate 4 {}) 0 { state := .idle, reach := ⟨0xFFF, 0xF, 0xF⟩ } }

/-- The yard with bed 0 as given. -/
def withBed (b : Bed) : State := { yard with beds := vset yard.beds 0 b }

/-- A bed with one zone and two positions in a state, with entry 0 as given. -/
def bedIn (st : BedState) (e : Entry) : Bed :=
  { state := st, positions := 2, entries := vset (Vector.replicate 24 .empty) 0 e }

/-- The yard with piece 4's order in slot 0, in a state, with a claim on slot K0 row 0 stack 1 tier 0. -/
def withOrder (st : OrderState) : State :=
  { yard.reserveSlot 0 0 1 0 ⟨0, 5⟩ 0 with
    pieces := tput yard.pieces 4 (pieceAt (.stock 0 0 0 0) .released (some ⟨0, 5⟩))
    orders := [(0, { orderOf 4 st (.auto 0 none) with
      reserved := some (.stock 0 0 1 0), source := .stock 0 0 0 0 })] }

/-- The yard with crane 0 carrying out the order of slot 0. -/
def lifting (cs : CraneState) (st : OrderState) : State :=
  (withOrder st).modCrane 0 fun r => { r with state := cs, order := some ⟨0, 5⟩, acceptTimer := 2, liftTimer := 900 }

/-- The same with the piece on the hook. -/
def hooked : State :=
  ((lifting .working .working).modCrane 0 fun r => { r with hooked := true, hookCell := [4] }).modPiece 4 fun p =>
    { p with loc := .hook 0 }

/-- The port in a state, SEL low, with frame and response words. -/
def portIn (st : PortState) (frame response : List Word) : State :=
  { State.reset with port := { state := st, frame := frame, response := response, selLow := true } }

/-- The yard with crane 0 WORKING at the order of slot 0, to take piece 6 from a location to bay 1. -/
def liftFrom (l : Loc) : State :=
  { yard with
    pieces := tput yard.pieces 6 (pieceAt l .released (some ⟨0, 5⟩))
    orders := [(0, { orderOf 6 .working (.bay 1) with reserved := some (.bay 1), source := l })]
    cranes := vmod yard.cranes 0 fun r => { r with state := .working, order := some ⟨0, 5⟩, liftTimer := 900 } }

/-- The event word for the order of slot 0. -/
def ev : CraneWord := ⟨0, 5, 3⟩

/-! ### Well-formedness: an ill-formed term for each check -/

theorem test_illformed_purgeAll : wellFormed (.purgeAll 2) = false := by decide
theorem test_illformed_confirmDestination : wellFormed (.confirmLiftAtSource 0 2) = false := by decide
theorem test_illformed_confirmLost : wellFormed (.confirmLiftAtSource 0 3) = false := by decide
theorem test_illformed_unknownKind : wellFormed (.unknownKind 0x0401) = false := by decide
theorem test_illformed_badLength : wellFormed (.badLength 0x0401) = false := by decide
theorem test_illformed_frame_length :
    wellFormed (.frameReceived ⟨false, false, 5, [0, 0, 0, 0, 0, 0, 0, 0, 0]⟩) = false := by decide
theorem test_illformed_frame_ident : wellFormed (.frameReceived ⟨false, false, 2048, []⟩) = false := by decide
theorem test_wellformed_frame : wellFormed (.frameReceived ⟨true, false, 2048, []⟩) = true := by decide

/-! ### Frames, written out from section 11.5.3: kind in bits 15 to 10, length in bits 9 to 0 -/

theorem test_decode_ident : decodeFrame [0x0401] = some .ident := by decide
theorem test_decode_setTime : decodeFrame [0x0803, 0x0001, 0x86A0] = some (.setTime 100000) := by decide
theorem test_decode_purgeOrders : decodeFrame [0x1802, 2] = some .purgeOrders := by decide
theorem test_decode_readMix : decodeFrame [0x2402, 9] = some (.readMix 9) := by decide
theorem test_decode_setBed : decodeFrame [0x3007, 0x0601, 6, 2, 0x0540, 0, 0] = some (.setBed 6 1 6 2 0x540) := by
  decide
theorem test_decode_declare : decodeFrame [0x3406, 0x0603, 0x0001, 0x0002, 77, 0x0906] =
    some (.declare 6 3 0x010002 77 9 6) := by decide
theorem test_decode_zoneSetup : decodeFrame [0x5406, 24, 300, 8, 1023, 1] = some (.zoneSetup 24 300 8 1023 1) := by
  decide
theorem test_decode_getPiece : decodeFrame [0x6003, 0xFF01, 0x0002] = some (.getPiece 0x010002) := by decide
theorem test_decode_releasePiece : decodeFrame [0x8003, 0, 9] = some (.releasePiece 9) := by decide
theorem test_decode_slotOut : decodeFrame [0x9403, 0x6135, 0x0700] = some (.slotOut 0x613507) := by decide
theorem test_decode_queryEmptyBlock : decodeFrame [0x9C03, 0x8002, 0x0103] = some (.queryEmptyBlock 2 1 3) := by
  decide
theorem test_decode_orderMove : decodeFrame [0xA007, 0, 9, 0xA100, 0, 0x02FF, 500] =
    some (.orderMove 9 0xA10000 2 0xFF 500) := by decide
theorem test_decode_startTransfer : (decodeFrame [0xC00A, 0x0305, 0x0201, 0x0601, 0x0112, 7, 0x0102, 0x0003, 0x0401, 1]) =
    some (.startTransfer ⟨3, 5, 2, 1, 6, 1, 1, 0x12, 7, 1, 2, 0, 3, 4, 1, 1⟩) := by decide
theorem test_decode_craneSetup : decodeFrame [0xD806, 1, 0x0040, 0x0402, 600, 0x0039] =
    some (.craneSetup 1 0x40 0x402 600 0x39) := by decide
theorem test_decode_confirmLost : decodeFrame [0xE003, 0x1F07, 3] = some (.confirmLiftLost 0x1F07) := by decide
theorem test_decode_wrong_length : decodeFrame [0x0402, 0] = none := by decide
theorem test_decode_unknown_kind : frameCheck 0x1C01 = .unknownKind := by decide
theorem test_decode_stock_location : locArg 0x613507 = .place (.stock 1 3 7 5) := by decide
theorem test_tableWord_none : decodeTableWord 16 0x0401 = none := by decide

/-! ### Small steps: results from the rules -/

/-- R31: the cap is the least Tmax, 650, less 30. -/
theorem test_cast_cap : ((after (.cast 0) (({ withBed (bedIn .set (.declared 6)) with
    pieces := [(6, {})] } : State))).bed 0).cap = some 620 := by decide +kernel

/-- R60: halfway along a segment from (100, 10) to (200, 20). -/
theorem test_strength_interpolates : mixA.strengthAt 155 = 15 := by decide

/-- R57: 300 s at 20.0 °C over a datum of −10.0 °C is 180,000 residual units, 250 maturity units of 720. -/
theorem test_credit_units : ((curing.credit ((200 + 200 + 200) * 300)).maturity,
    (curing.credit ((200 + 200 + 200) * 300)).residual) = (250, 0) := by decide

/-- R58: the ceiling. -/
theorem test_credit_ceiling : ({ curing with maturity := 16777210 }.credit 7200).maturity = 16777215 := by decide

/-- R49: a temperature is clamped into −40.0 to 120.0 °C. -/
theorem test_sample_clamps : ((after (.sample 51 0x7FFF) yard).zone 51).lastGood = 1200 := by decide +kernel

/-- R99: a FREE slot on tier 1 of row 0 comes before tier 0. -/
theorem test_search_tier_one : yard.search 0 0 [] = some (0, 0, 1) := by decide +kernel

/-- R99: tier 0 of row 0 comes before row 1. -/
theorem test_search_tier_zero : yard.search 0 3 [] = some (0, 1, 0) := by decide +kernel

/-- R111: a slot is OCCUPIED for SLOT_OUT when a tier above it is not FREE. -/
theorem test_slotOut_below_out : after (.slotOut 0x601001) yard = yard := by decide +kernel

/-- R166, R168: a RELEASED piece is refused. -/
theorem test_hold_released : (after (.holdPiece 4) yard).pieces = yard.pieces := by decide +kernel

/-- R120: a dispatch of a released piece claims bay 1 and is offered at once to the idle crane. -/
theorem test_dispatch_offered : (((after (.orderDispatch 4 1 1 0 0) yard).order 0).map (·.state),
    ((after (.orderDispatch 4 1 1 0 0) yard).bay 1).count) = (some .offered, 1) := by decide +kernel

/-- R156: the piece leaves its slot for the hook. -/
theorem test_hook_frees : (((after (.hooked 0 ev) (lifting .working .working)).block 0).cell 0 0 0,
    ((after (.hooked 0 ev) (lifting .working .working)).crane 0).hookCell) = (none, [4]) := by decide +kernel

/-- R157: the piece stands in its slot and the order is DONE. -/
theorem test_land_places : ((after (.landed 0 ev) hooked).piece 4).map (·.loc) = some (.stock 0 0 1 0) := by
  decide +kernel

/-- R155: the third refusal fails the order. -/
theorem test_third_refusal : ((after (.refuse 0 ev) ((lifting .offered .offered).modOrder 0 fun o =>
    { o with attempts := 2 })).order 0).map (·.outcome) = some (some .refusedOut) := by decide +kernel

/-- R88: an accumulator of 1000 and a duty of 100 overflow 1024 by 76. -/
theorem test_spread_overflow : ({ accumulator := 1000 : Heater }.spreadTick 100).accumulator = 76 := by decide

/-- R180: plant time returns to 0 after 2^32 − 1. -/
theorem test_tick_wraps : (after .tick { State.reset with time := 4294967295 }).time = 0 := by decide +kernel

/-- R187: the first response word of a DONE to kind 1 is 0x4100, every bit of it named. -/
theorem test_response_header : packed [(14, 2, 1), (8, 6, 1), (0, 8, 0)] = ⟨0x4100, 0xFFFF⟩ := by decide

/-- R197: an abandoned shift is not latched. -/
theorem test_latch_without_shift : after .heaterLatch { State.reset with line := { shifting := none } } =
    { State.reset with line := { shifting := none } } := by decide +kernel

/-- R197: once the reset's 48 offs are latched, a yard stop before the first tick shifts nothing. -/
theorem test_no_shift_before_tick : (after .yardStopAsserted (after .heaterLatch State.reset)).line.shifting = none := by
  decide +kernel

/-- An OPEN bed in DONE with one piece left on it, LIFTABLE, after the first tick and with no shift in progress. -/
def doneBed : State :=
  { withBed { bedIn .opened (.cast 6) with phase := .done } with
    pieces := tput yard.pieces 6 (pieceAt (.bed 0 0) .opened none)
    line := { shifting := none, ticked := true } }

/-- R37, R87: the bed's last piece is scrapped, its phase DONE ends, and the line gets a new set. -/
theorem test_freed_bed_shifts : (after (.scrapPiece 6) doneBed).line.shifting = some (Vector.replicate 48 false) := by
  decide +kernel

/-- Two AUTO orders of pieces at bays: the first QUEUED for K0 row 0 stack 1 tier 0, the second in BASE above it. -/
def stackedClaims : State :=
  let claim := fun (t : Nat) (o : Order) => { o with reserved := some (.stock 0 0 1 t), cls := 3 }
  ({ yard with
    pieces := tput (tput yard.pieces 5 (pieceAt (.bay 0) .released (some ⟨0, 5⟩))) 6
      (pieceAt (.bay 0) .released (some ⟨1, 5⟩))
    orders := [(0, claim 0 (orderOf 5 .queued (.auto 0 none))),
      (1, claim 1 (orderOf 6 (.waiting .base) (.auto 0 none)))] }.reserveSlot 0 0 1 0 ⟨0, 5⟩ 0).reserveSlot 0 0 1 1 ⟨1, 5⟩ 0

/-- R103, R123: the first is cancelled, and the second is searched again: tier 1 above piece 4 is FREE. -/
theorem test_research_above : ((after (.cancelOrder 5) stackedClaims).order 1).map (·.reserved) =
    some (some (.stock 0 0 0 1)) := by decide +kernel

/-! ### For each statement with hypotheses, a state and operands that meet them -/

theorem test_witness_StepRunsFront : (yard.withPending [.tick]).pending = [.tick] := rfl

theorem test_witness_bounds : State.reset.Bounds := by constructor <;> decide +kernel
theorem test_witness_heat : State.reset.HeatLaw := by constructor <;> decide +kernel
theorem test_witness_canonical : State.reset.Canonical := by constructor <;> decide +kernel
theorem test_witness_step : step State.reset = .next State.reset := rfl

/-- The yard with the in-use count of its two pieces' mix. -/
def countedYard : State := { yard with mixes := vset (Vector.replicate 16 {}) 0 { mixA with inUse := 2 } }

theorem test_witness_MixCountsKept : countedYard.MixCounts := by constructor <;> decide +kernel
theorem test_witness_MixCountsKept_canonical : (countedYard.withPending [.tick]).Canonical := by
  constructor <;> decide +kernel
theorem test_witness_MixCountsKept_step : step (countedYard.withPending [.tick]) =
    .next (after .tick (countedYard.withPending [])) := rfl

/-- Agreement from conditions that can be decided, one conjunction for the pieces and one for the orders. -/
theorem agreesOf {s : State}
    (pieces : ∀ e ∈ s.pieces, s.listsAt e.1 e.2 = true ∧ (e.2.stage = .declared ↔ e.2.loc = .none)
      ∧ (e.2.stage = .liftable → s.onOpenBed e.2 = true)
      ∧ (∀ h ∈ e.2.order, ((s.order h.slot).any fun o => o.tag == h.tag && o.state.live && o.piece == e.1) = true)
      ∧ (e.2.loc.isHook = true → e.2.order.isSome = true))
    (orders : ∀ e ∈ s.orders, e.1 < Config.orderSlots ∧ e.2.dest.bayExists = true ∧ s.claimAgrees e.1 e.2 = true
      ∧ (e.2.state.live = true → ((s.piece e.2.piece).any fun p => p.order == some (e.2.handle e.1)) = true)
      ∧ (e.2.state.live = false ∨ e.2.state = .parked → e.2.reserved = none)
      ∧ (e.2.state = .queued ∨ e.2.state.inLift = true → e.2.reserved.isSome = true
        ∧ ((s.piece e.2.piece).any fun p => p.stage == .liftable) = true)
      ∧ (e.2.state = .queued ∨ e.2.state.inLift = true → s.baseFilled e.2 = true)
      ∧ (e.2.state = .queued ∨ e.2.state.inLift = true → ((s.piece e.2.piece).all fun p => !s.buried p) = true)
      ∧ (e.2.state.live = true → s.leavesStack e.2 = true)
      ∧ (e.2.state.unoffered = true → ((s.piece e.2.piece).all fun p => !p.loc.isHook) = true)
      ∧ (e.2.state.inLift = true → ((s.piece e.2.piece).any fun p => s.liftAgrees e.1 e.2 p) = true)
      ∧ (e.2.state = .offered ∨ e.2.state = .working → (s.crane e.2.crane).order = some (e.2.handle e.1))
      ∧ e.2.attempts ≤ (if e.2.state.live then 2 else 3))
    (entries : ∀ b < Config.beds, ∀ pos < Config.positions, s.entryAgrees b pos = true)
    (beds : ∀ b < Config.beds, (s.bed b).entriesFit = true ∧ ((s.bed b).state = .releaseReady → (s.bed b).kind = .prestress))
    (slots : ∀ k < Config.blocks, ∀ e ∈ (s.block k).slots, s.cellAgrees k e.1 e.2 = true)
    (bays : ∀ b < Config.bays, (∀ id ∈ (s.bay b).pieces, s.standsAt id (.bay b) = true)
      ∧ (s.bay b).count = (s.bay b).pieces.length + s.bayClaims b)
    (hooks : ∀ c < Config.cranes, ∀ id ∈ (s.crane c).hookCell, s.standsAt id (.hook c) = true)
    (cranes : ∀ c < Config.cranes, s.craneAgrees c = true)
    (marks : ∀ k < Config.blocks, ∀ r < (s.block k).rows, ∀ st < (s.block k).perRow,
      (s.block k).isClosed r st = s.stackHeldClosed k r st) : s.Agrees where
  pieces e he := by
    obtain ⟨listed, declared, opened, bound, hook⟩ := pieces e he
    constructor <;> assumption
  orders e he := by
    obtain ⟨slot, bay, claim, bound, free, ready, base, clear, apart, waits, lift, current, tries⟩ := orders e he
    constructor <;> assumption
  entries := entries
  beds := beds
  slots := slots
  bays := bays
  hooks := hooks
  cranes := cranes
  marks := marks

theorem test_witness_AgreementKept : (lifting .working .working).Agrees := by apply agreesOf <;> decide +kernel
theorem test_witness_AgreementKept_offered : (lifting .offered .offered).Agrees := by apply agreesOf <;> decide +kernel
theorem test_witness_AgreementKept_bounds : (lifting .working .working).Bounds := by constructor <;> decide +kernel
theorem test_witness_AgreementKept_canonical : (lifting .working .working).Canonical := by
  constructor <;> decide +kernel
theorem test_witness_AgreementKept_step : step ((lifting .working .working).withPending [.landed 0 ev]) =
    .next (after (.landed 0 ev) ((lifting .working .working).withPending [])) := rfl

/-- A counted yard in which program 7's order is WORKING. -/
def coherentYard : State :=
  { (((lifting .working .working).modProgram 7 fun p => { p with state := .running, order := some ⟨0, 5⟩ }).modOrder 0 fun o =>
      { o with origin := .program 7 }) with
    mixes := vset (Vector.replicate 16 {}) 0 { mixA with inUse := 2 } }

theorem test_witness_AgreementKept_coheres : (coherentYard.withPending [.landed 0 ev]).Canonical
    ∧ (coherentYard.withPending [.landed 0 ev]).Bounds ∧ (coherentYard.withPending [.landed 0 ev]).Agrees
    ∧ (coherentYard.withPending [.landed 0 ev]).MixCounts ∧ (coherentYard.withPending [.landed 0 ev]).Coheres
    ∧ step (coherentYard.withPending [.landed 0 ev]) = .next (after (.landed 0 ev) (coherentYard.withPending [])) := by
  refine ⟨?_, ?_, by apply agreesOf <;> decide +kernel, ?_, ?_, rfl⟩ <;> constructor <;> decide +kernel

/-- For both statements about a record over a step. -/
theorem test_witness_ReleaseLockKept : ∃ p q, step (yard.withPending [.holdPiece 4]) = .next
      (after (.holdPiece 4) (yard.withPending [])) ∧ (yard.withPending [.holdPiece 4]).piece 4 = some p
    ∧ p.quality = .released ∧ p.stage ≠ .declared ∧ p.Bounded ∧ (after (.holdPiece 4) (yard.withPending [])).piece 4 = some q :=
  ⟨_, _, rfl, rfl, rfl, by decide, by decide, rfl⟩

/-- With `test_witness_AgreementKept`, `_offered` and `_bounds` for the records. -/
theorem test_witness_ResetsState : (lifting .working .working).NoStopping ∧ (lifting .offered .offered).NoStopping
    ∧ (lifting .working .working).link.state = .off
    ∧ ({ yard with link := { state := .up } } : State).link.state ≠ .off ∧ (yard.piece 4).isSome = true
    ∧ ((lifting .offered .offered).order 0).map (lifting .offered .offered).pickSlot = some (some ⟨0, 0, 0, 0⟩) := by
  decide +kernel

theorem test_witness_ResetsState_bounds : (lifting .offered .offered).Bounds := by constructor <;> decide +kernel

theorem test_witness_FrameWordStored : State.reset.port.selLow = false
    ∧ (portIn .idle [] []).port.selLow = true ∧ (portIn .idle [] []).port.state = .idle ∧ 1 < headerLength 0x0C02
    ∧ (portIn .receiving [0x0803] []).port.state = .receiving ∧ ([] : List Word).length + 2 < headerLength 0x0803 := by
  decide

theorem test_witness_FrameValidated : (portIn .idle [] []).port.selLow = true
    ∧ headerLength 0x0401 ≤ [(0x0401 : Word)].length ∧ frameCheck 0x0401 = .handOn
    ∧ decodeFrame [0x0401] = some .ident ∧ headerLength 0x1C01 ≤ 1 ∧ frameCheck 0x1C01 = .unknownKind
    ∧ headerLength 0x0400 ≤ 1 ∧ frameCheck 0x0400 = .badLength
    ∧ [(0x0C02 : Word), 1] = (portIn .receiving [0x0C02] []).port.frame ++ [1] ∧ headerLength 0x0C02 ≤ 2 := by decide

theorem test_witness_ResponseBuilt : (portIn .executing [0x0401] []).port.selLow = true ∧ (63 : Nat) < 64
    ∧ ([] : List DataWord).length < 1022 ∧ Reply.failed .range = .failed .range ∧ Reason.range.code = 3 := by decide

theorem test_witness_ResponseDiscarded : State.reset.port.selLow = false := rfl

theorem test_witness_WordsWhileBusy : (portIn .responding [] [1]).port.selLow = true
    ∧ (portIn .responding [] [1]).port.state = .responding ∧ (portIn .responding [] [1]).port.response = [1]
    ∧ (portIn .executing [0x0401] []).port.state = .executing := by decide

theorem test_witness_SelEdges : (portIn .receiving [0x0C02] []).port.state = .receiving
    ∧ (portIn .responding [] [1]).port.state = .responding ∧ (portIn .executing [0x0401] []).port.state = .executing := by
  decide

theorem test_witness_HeaderAnswered : State.reset.port.state ≠ .executing ∧ frameCheck 0x1C01 = .unknownKind
    ∧ frameCheck 0x0402 = .badLength := by decide

theorem test_witness_IdentAnswers : (portIn .executing [0x0401] []).Hears .ident ∧ State.reset.Hears .ident := by
  decide +kernel

theorem test_witness_TakeAttentionRemoves : State.reset.Hears .takeAttention := by decide +kernel

theorem test_witness_SetTimeEffects : (withOrder .queued).Hears (.setTime 4294967295) ∧ yard.hasWork 48 = true
    ∧ ∃ o, (withOrder .queued).order 0 = some o ∧ o.state = .queued := ⟨by decide +kernel, by decide +kernel, _, rfl, rfl⟩

theorem test_witness_SetModeEffects : yard.Hears (.setMode 3) ∧ plantModeArg 3 = some .standby ∧ yard.yardStop = false
    ∧ yard.mode ≠ .standby ∧ (after (.setMode 3) yard).effMode 0 ≠ yard.effMode 0 ∧ (yard.crane 0).state = .idle
    ∧ plantModeArg 0 = none ∧ plantModeArg 4 = none ∧ ({ yard with yardStop := true } : State).Hears (.setMode 1)
    ∧ plantModeArg 1 ≠ none := by decide +kernel

theorem test_witness_LinkSetupEffects : State.reset.Hears (.linkSetup 2) ∧ linkRateArg 2 = some .r500
    ∧ linkRateArg 0 = some .r125 ∧ State.reset.link.state ≠ .up
    ∧ ({ yard with link := { state := .up, rate := .r250 } } : State).Hears (.linkSetup 2)
    ∧ LinkRate.r250 ≠ .r500 := by decide +kernel

theorem test_witness_Purge : ({ yard with mode := .standby } : State).Hears (.purgeAll 1)
    ∧ ({ yard with mode := .standby } : State).nothingInLift = true ∧ yard.Hears .purgeOrders := by decide +kernel

/-- The least and greatest operands of LOAD_MIX. -/
def mixLow : MixArgs :=
  { t0 := BitVec.ofInt 16 (-200), tmax := 400, limit := 1
    points := #v[(0, 0), (1, 0), (2, 0), (3, 0), (4, 0), (5, 0), (6, 0), (16777215, 1200)]
    strip := 0, release := 0, dispatch := 1200 }

theorem test_witness_LoadMixWrites : State.reset.Hears (.loadMix 15 mixLow) ∧ (State.reset.mix 15).inUse = 0
    ∧ -200 ≤ mixLow.t0.toInt ∧ mixLow.t0.toInt ≤ 100 ∧ 400 ≤ mixLow.tmax.toInt ∧ mixLow.tmax.toInt ≤ 800
    ∧ 1 ≤ mixLow.limit.toNat ∧ mixLow.limit.toNat ≤ 255 ∧ (mixLow.points[0]).1 = 0
    ∧ (∀ i (h : i < 7), mixLow.points[i].1.toNat < mixLow.points[i + 1].1.toNat)
    ∧ (∀ i (h : i < 7), mixLow.points[i].2.toNat ≤ mixLow.points[i + 1].2.toNat)
    ∧ mixLow.points[7].2.toNat ≤ 1200 ∧ mixLow.strip.toNat ≤ mixLow.release.toNat
    ∧ mixLow.release.toNat ≤ mixLow.dispatch.toNat ∧ mixLow.dispatch.toNat ≤ 1200 := by decide +kernel

theorem test_witness_SetBedWrites : State.reset.Hears (.setBed 11 1 24 4 0xE4E4E4E4E4E4) ∧ bedKindArg 1 = some .prestress
    ∧ (State.reset.bed 11).state = .free ∧ ∀ p < 24, mapBits 0xE4E4E4E4E4E4 p < 4 := by decide +kernel

theorem test_witness_DeclareAndAmend_declare : (withBed (bedIn .set .empty)).Hears (.declare 0 1 0xFFFFFF 0xFFFF 15 15)
    ∧ ((withBed (bedIn .set .empty)).bed 0).state = .set ∧ 1 < ((withBed (bedIn .set .empty)).bed 0).positions
    ∧ (withBed (bedIn .set .empty)).entry 0 1 = .empty ∧ (withBed (bedIn .set .empty)).piece 0xFFFFFF = none
    ∧ ((withBed (bedIn .set .empty)).mix 15).loaded = true ∧ (withBed (bedIn .set .empty)).pieces.length < 1024 := by
  decide +kernel

/-- The yard with piece 6 declared on bed 0. -/
def declaredYard : State := { withBed (bedIn .set (.declared 6)) with pieces := tput yard.pieces 6 {} }

theorem test_witness_CastEffects : declaredYard.Hears (.cast 0) ∧ (declaredYard.bed 0).state = .set
    ∧ (declaredYard.bed 0).has Entry.isDeclared = true ∧ (declaredYard.bed 0).zoneCount ≤ 4
    ∧ declaredYard.entry 0 0 = .declared 6 ∧ declaredYard.piece 6 = some {}
    ∧ ∀ p' < 24, declaredYard.entry 0 p' = .declared 6 → p' = 0 := by decide +kernel

theorem test_witness_DetensionedEffects : (withBed (bedIn .releaseReady (.cast 4))).Hears (.detensioned 0)
    ∧ ((withBed (bedIn .releaseReady (.cast 4))).bed 0).state = .releaseReady := by decide +kernel

theorem test_witness_ClearBedEffects : declaredYard.Hears (.clearBed 0) ∧ (declaredYard.bed 0).state = .set
    ∧ declaredYard.entry 0 0 = .declared 6 := by decide +kernel

theorem test_witness_SetProfileWrites : declaredYard.Hears (.setProfile 0 600 350 1200 2880 1 0xFE70)
    ∧ (declaredYard.bed 0).state = .set ∧ (1200 : Word).toInt ≤ 1200 ∧ -400 ≤ (0xFE70 : Word).toInt := by decide +kernel

theorem test_witness_ZoneSetupWrites : State.reset.Hears (.zoneSetup 51 60 0 0 9)
    ∧ State.reset.Hears (.zoneSetup 47 900 64 1023 1) ∧ heaterModeArg 1 = some .block
    ∧ (State.reset.heater 47).mode ≠ .block ∧ heaterModeArg 0 = some (State.reset.heater 0).mode := by decide +kernel

theorem test_witness_SpreadModeCount : (1023 : Nat) ≤ 1023 ∧ ({} : Heater).accumulator = 0 := by decide

theorem test_witness_StrengthNeverFalls : rising (mixA.curve.toList.map (·.1)) = true
    ∧ notFalling (mixA.curve.toList.map (·.2)) = true ∧ (699 : Nat) ≤ 700 := by decide

/-- A zone in each of the states a sample tells apart. -/
def zoneIn (st : ZoneState) (run : Nat) : State := yard.modZone 0 fun r => { r with state := st, faultRun := run }

theorem test_witness_SampleZone : (7 : Word) ≠ 0x8000 ∧ ((zoneIn .idle 0).zone 0).state = .idle
    ∧ ((zoneIn .arming 2).zone 0).state = .arming ∧ ((zoneIn .arming 2).zone 0).faultRun < 3
    ∧ ((zoneIn .live 2).zone 0).state.trusted = true ∧ ((zoneIn .stale 3).zone 0).state = .stale
    ∧ 3 ≤ ((zoneIn .stale 3).zone 0).faultRun := by decide +kernel

/-- Piece 6 curing at B0 on a zone in a state. -/
def curingYard (st : ZoneState) : State :=
  { withBed (bedIn .curing (.cast 6)) with
    pieces := tput yard.pieces 6 curing
    zones := vmod yard.zones 0 fun r => { r with state := st, lastArrival := 800, lastGood := 200 } }

theorem test_witness_SampleCredits : (200 : Word) ≠ 0x8000 ∧ ((curingYard .live).zonePieces 0).count 6 = 1
    ∧ (curingYard .live).piece 6 = some curing ∧ curing.quality ≠ .released
    ∧ ((curingYard .live).zone 0).state.trusted = true ∧ ((curingYard .failed).zone 0).state = .failed
    ∧ ((curingYard .live).zone 0).faultRun < 3 ∧ ((curingYard .idle).zone 0).state = .idle ∧ curing.loc = .bed 0 0 := by
  decide +kernel

theorem test_witness_SampleCredits_agrees : (curingYard .live).Agrees := by apply agreesOf <;> decide +kernel

/-- The curing yard with a bed of a kind, one piece to count, and piece 6 at a maturity. -/
def gateYard (k : BedKind) (m : Nat) : State :=
  ((curingYard .live).modBed 0 fun r => { r with kind := k, notYet := 1 }).modPiece 6 fun p => { p with maturity := m }

/-- R35, R63: 166 units in 200 s take the piece past STRIP at maturity 200; it is LIFTABLE and its FORM bed OPEN. -/
theorem test_strip_opens : (((after (.sample 0 200) (gateYard .form 195)).piece 6).map (fun p => (p.maturity, p.stage)),
    ((after (.sample 0 200) (gateYard .form 195)).bed 0).state) = (some (361, .liftable), .opened) := by decide +kernel

/-- R33, R64: past RELEASE at maturity 400 the piece is counted, and the PRESTRESS bed is RELEASE_READY. -/
theorem test_release_counts : (((after (.sample 0 200) (gateYard .prestress 395)).piece 6).map (fun p =>
    (p.gateRelease, p.stage)), ((after (.sample 0 200) (gateYard .prestress 395)).bed 0).state) =
      (some (true, .curing), .releaseReady) := by decide +kernel

/-- R50: the first fault sample credits with the last good temperature, as a good sample of 20.0 °C does. -/
theorem test_fault_sample_credits : ((after (.sample 0 0x8000) (curingYard .live)).piece 6).map (·.maturity) =
    ((after (.sample 0 200) (curingYard .live)).piece 6).map (·.maturity) := by decide +kernel

theorem test_witness_StatusCommandsAnswer : yard.Hears (.readMix 15) ∧ yard.Hears (.bedStatus 11)
    ∧ yard.Hears (.zoneStatus 51) ∧ yard.Hears (.transferStatus 7) ∧ yard.Hears (.craneStatus 3)
    ∧ (withOrder .queued).Hears (.orderStatus 5) ∧ handleArg 5 = ⟨0, 5⟩
    ∧ ((withOrder .queued).order 0).map (·.tag) = some 5 := by decide +kernel

theorem test_witness_QueriesAnswer : yard.Hears (.getPiece 4) ∧ (yard.piece 4).isSome = true
    ∧ (curingYard .live).Hears (.findAt 0x200000) ∧ locArg 0x200000 = .place (.bed 0 0)
    ∧ 0 < ((curingYard .live).bed 0).positions ∧ (curingYard .live).entry 0 0 = .cast 6
    ∧ (curingYard .live).entry 0 1 = .empty ∧ locArg 0x200100 = .place (.bed 0 1)
    ∧ (withOrder .queued).Hears (.findAt 0x600001) ∧ locArg 0x600001 = .place (.stock 0 0 1 0)
    ∧ ((withOrder .queued).block 0).cell 0 1 0 = some (.reserved ⟨0, 5⟩) ∧ (yard.block 0).within 1 1 1 = true
    ∧ (yard.block 0).cell 1 1 1 = some .out ∧ (yard.block 0).cell 0 0 0 = some (.occupied 4)
    ∧ yard.Hears (.findAt 0x830000) ∧ locArg 0x830000 = .place (.bay 3)
    ∧ hooked.Hears (.findAt 0x430000) ∧ locArg 0x430000 = .place (.hook 3)
    ∧ yard.Hears (.readRow 0 1) ∧ (yard.block 0).defined = true ∧ 1 < (yard.block 0).rows
    ∧ yard.Hears (.findSlot 0 15) ∧ yard.Hears (.queryEmptyBed 11) ∧ yard.Hears (.queryEmptyBlock 0 0 1) := by
  decide +kernel

theorem test_witness_SearchOrder : (yard.block 0).defined = true := by decide

theorem test_witness_DeclareAndAmend_amend : declaredYard.Hears (.amendPiece 6 7 1 15 15)
    ∧ declaredYard.piece 6 = some {} ∧ ({} : Piece).stage = .declared ∧ (7 : Word).getLsbD 1 = true
    ∧ (declaredYard.mix 15).loaded = true ∧ ({} : Piece).mix ≠ 15
    ∧ declaredYard.Hears (.amendPiece 6 2 0 0 0xFFFF) ∧ ({} : Piece).mix = (0 : Word).toNat
    ∧ 1 ≤ (declaredYard.mix 0).inUse := by decide +kernel

theorem test_witness_RecordsEnd : yard.Hears (.scrapPiece 4)
    ∧ (yard.piece 4).map (fun p => (p.loc.isHook, yard.lifting p, yard.buried p)) = some (false, false, false)
    ∧ declaredYard.Hears (.scrapPiece 6) ∧ (declaredYard.piece 6).map (·.loc) = some .none
    ∧ (curingYard .live).Hears (.scrapPiece 6) ∧ ((curingYard .live).piece 6).map (·.loc) = some (.bed 0 0)
    ∧ (withOrder .queued).Hears (.scrapPiece 4)
    ∧ ((withOrder .queued).piece 4).map (fun p => (p.order, (withOrder .queued).lifting p, (withOrder .queued).buried p)) =
      some (some ⟨0, 5⟩, false, false)
    ∧ ((withOrder .queued).order 0).map (·.piece) = some 4
    ∧ yard.Hears (.retirePiece 5) ∧ (yard.piece 5).map (fun p => (p.loc, p.order)) = some (.bay 0, none) := by
  decide +kernel

/-- The curing yard with piece 6 held for a cause. -/
def heldYard (c : HoldCause) : State := (curingYard .live).modPiece 6 fun p => { p with quality := .held c }

theorem test_witness_HoldAndUnhold : yard.Hears (.holdPiece 0) ∧ yard.piece 0xFFFFFF = none
    ∧ (yard.piece 4).map (·.quality) = some .released ∧ ((curingYard .live).piece 6).map (·.quality) = some .opened
    ∧ (heldYard .overheat).Hears (.holdPiece 6) ∧ ((heldYard .overheat).piece 6).map (·.quality) = some (.held .overheat)
    ∧ (heldYard .host).Hears (.unholdPiece 6) ∧ ((heldYard .host).piece 6).map (·.quality) = some (.held .host) := by
  decide +kernel

/-- The yard with piece 4 not yet released, at a strength. -/
def unreleased (strength : Nat) : State := yard.modPiece 4 fun p => { p with quality := .opened, strength := strength }

theorem test_witness_ReleasePieceActs : (unreleased 60).Hears (.releasePiece 4)
    ∧ ((unreleased 60).piece 4).map (fun p => (p.quality, p.stage, p.strength)) = some (.opened, .liftable, 60)
    ∧ ((unreleased 60).mix 0).dispatch ≤ 60 ∧ 59 < ((unreleased 59).mix 0).dispatch
    ∧ ((unreleased 60).piece 4).map (·.loc) = some (.stock 0 0 0 0)
    ∧ ((curingYard .live).piece 6).map (fun p => (p.quality, p.stage)) = some (.opened, .curing) := by decide +kernel

theorem test_witness_StockCommands : State.reset.Hears (.defineBlock 3 16 32 6)
    ∧ (∀ e ∈ (State.reset.block 3).slots, e.2 = .out) ∧ yard.Hears (.slotOut 0x600001)
    ∧ locArg 0x600001 = .place (.stock 0 0 1 0) ∧ (yard.block 0).within 0 1 0 = true
    ∧ (∀ j < 2, (yard.block 0).cell 0 1 j = none) ∧ yard.Hears (.slotIn 0x601101)
    ∧ locArg 0x601101 = .place (.stock 0 1 1 1) ∧ (yard.block 0).cell 1 1 1 = some .out := by decide +kernel

/-- The yard with one slot more OUT, K0 row 0 stack 1 tier 0, and an order of piece 5 that waits for it. -/
def noSlotYard : State :=
  { yard with
    pieces := tput yard.pieces 5 (pieceAt (.bay 0) .released (some ⟨0, 5⟩))
    orders := [(0, orderOf 5 (.waiting .noSlot) (.slot 0 0 1 0))]
    blocks := vmod yard.blocks 0 fun b => { b with slots := tput b.slots (slotKey 0 1 0) .out } }

/-- The same with nothing but OUT in the block. -/
def emptyBlockYard : State :=
  { noSlotYard with
    pieces := [(5, pieceAt (.bay 0) .released (some ⟨0, 5⟩))]
    blocks := vmod yard.blocks 0 fun b => { b with slots := [(slotKey 0 1 0, .out)], footprints := [] } }

theorem test_witness_StockCommands_waiting : noSlotYard.Hears (.slotIn 0x600001)
    ∧ (noSlotYard.block 0).cell 0 1 0 = some .out
    ∧ (noSlotYard.modBlock 0 (Block.setCell 0 1 0 none)).autoAbove ⟨0, 0, 1, 0⟩ = []
    ∧ (noSlotYard.order 0).map (fun o => (o.state, o.dest.block?, o.piece)) = some (.waiting .noSlot, some 0, 5)
    ∧ emptyBlockYard.Hears (.defineBlock 0 2 2 2) ∧ (∀ e ∈ (emptyBlockYard.block 0).slots, e.2 = .out)
    ∧ (emptyBlockYard.order 0).map (·.state) = some (.waiting .noSlot) ∧ (emptyBlockYard.piece 5).isSome = true := by
  decide +kernel

/-- R112, R124: the slot is back, and the order that waited for it claims it and is offered to the IDLE crane. -/
theorem test_slot_in_reevaluates : ((after (.slotIn 0x600001) noSlotYard).order 0).map (fun o => (o.state, o.reserved)) =
    some (.offered, some (.stock 0 0 1 0)) := by decide +kernel

/-- The yard with piece 6 on piece 4. -/
def buriedYard : State :=
  { yard with
    pieces := tput yard.pieces 6 (pieceAt (.stock 0 0 0 1) .released none)
    blocks := vmod yard.blocks 0 fun b => { b with slots := tput b.slots (slotKey 0 0 1) (.occupied 6) } }

theorem test_witness_OrdersCreated_agrees : yard.Agrees := by apply agreesOf <;> decide +kernel
theorem test_witness_OrdersCreated_buried : buriedYard.Agrees ∧ buriedYard.Hears (.orderDispatch 4 1 1 0 0)
    ∧ (buriedYard.piece 4).map (fun p => (p.stage, p.loc, buriedYard.buried p, buriedYard.chooseCrane (some 0) p (.bay 1))) =
      some (.liftable, .stock 0 0 0 0, true, some 0) :=
  ⟨by apply agreesOf <;> decide +kernel, by decide +kernel⟩

/-- R122, R127, R128: the buried pick waits, and the piece on it gets a rehandle to another stack. -/
theorem test_dig_pass :
    let t := after (.orderDispatch 4 1 1 0 0) buriedYard
    (t.order 0).map (·.state) = some (.waiting .buried)
      ∧ (t.order 1).map (fun o => (o.kind, o.piece, o.cls, o.reserved)) =
        some (.rehandle, 6, 2, some (.stock 0 0 1 0)) := by decide +kernel

theorem test_witness_OrdersCreated : craneArg 0xFF = some none ∧ craneArg 0 = some (some 0)
    ∧ (yard.piece 4).map (fun p => (p.loc.isHook, p.order)) = some (false, none) ∧ yard.freeRecord = some 0
    ∧ yard.Hears (.orderMove 4 0x600001 3 0xFF 9) ∧ moveDest 0x600001 = some (.slot 0 0 1 0)
    ∧ (yard.block 0).defined = true ∧ yard.destWithin (.slot 0 0 1 0) = true
    ∧ (yard.piece 4).map (fun p => (destSuits (.slot 0 0 1 0) p, yard.destFree (.slot 0 0 1 0) p,
        yard.chooseCrane none p (.slot 0 0 1 0))) = some (true, true, some 0)
    ∧ yard.Hears (.orderDispatch 4 3 0 0 0)
    ∧ (yard.piece 4).map (fun p => (p.quality, yard.chooseCrane (some 0) p (.bay 3))) = some (.released, some 0) := by
  decide +kernel

theorem test_witness_SetClassEffects : (withOrder .parked).Hears (.setClass 5 3 7) ∧ (withOrder .queued).Hears (.setClass 5 0 7)
    ∧ (withOrder .queued).Hears (.setClass 5 3 7) ∧ ((withOrder (.waiting .base)).order 0).map (·.state) = some (.waiting .base)
    ∧ handleArg 5 = ⟨0, 5⟩ ∧ ((withOrder .queued).order 0).map (fun o => (o.tag, o.state.unoffered, o.claimSound)) =
      some (5, true, true) := by decide +kernel

/-- The yard with piece 4's order PARKED in slot 0. -/
def parkedYard : State :=
  { yard with
    pieces := tput yard.pieces 4 (pieceAt (.stock 0 0 0 0) .released (some ⟨0, 5⟩))
    orders := [(0, { orderOf 4 .parked (.slot 0 0 1 0) with cls := 0 })] }

theorem test_witness_SetClassEffects_promotes : parkedYard.Hears (.setClass 5 3 7)
    ∧ (parkedYard.order 0).map (fun o => (o.state, parkedYard.leavesStack o, o.crane)) = some (.parked, true, 0)
    ∧ (parkedYard.piece 4).isSome = true ∧ (parkedYard.crane 0).state = .idle ∧ parkedYard.effMode 0 = .run := by
  decide +kernel

/-- R133: promoted, the order claims its slot and is offered; of a piece that is not LIFTABLE it waits. -/
theorem test_promote :
    ((after (.setClass 5 3 7) parkedYard).order 0).map (fun o => (o.state, o.reserved)) =
      some (.offered, some (.stock 0 0 1 0))
    ∧ ((after (.setClass 5 3 7) (parkedYard.modPiece 4 fun p => { p with stage := .curing })).order 0).map (·.state) =
      some (.waiting .notLiftable) := by decide +kernel

/-- The yard with crane 0 OFFLINE and an order QUEUED for each of two pieces, the later one of a lower class. -/
def queueYard : State :=
  { yard with
    pieces := [(4, pieceAt (.stock 0 0 0 0) .released (some ⟨0, 5⟩)), (5, pieceAt (.bay 0) .released (some ⟨1, 5⟩))]
    orders := [(0, { orderOf 4 .queued (.bay 1) with cls := 3, reserved := some (.bay 1) }),
      (1, { orderOf 5 .queued (.bay 2) with sequence := 2, reserved := some (.bay 2) })]
    cranes := vmod yard.cranes 0 fun r => { r with state := .offline } }

theorem test_witness_rivals : ((queueYard.order 0).map (queueYard.isCandidate 0),
    (queueYard.order 1).map (queueYard.isCandidate 0)) = (some true, some true) ∧ queueYard.effMode 0 = .run
    ∧ (∀ c < 4, queueYard.currentSlot c = none) := by decide +kernel

/-- R130: the READY crane is offered the order of class 1, not the one of lower sequence in class 3. -/
theorem test_ready_selects : ((after (.ready 0 ev) queueYard).crane 0).order = some ⟨1, 5⟩ := by decide +kernel

/-- The yard with an ended order in slot 0. -/
def endedYard : State := { yard with orders := [(0, { orderOf 4 .done (.auto 0 none) with outcome := some .normal })] }

theorem test_witness_CancelAndClose : (withOrder .queued).Hears (.cancelOrder 5) ∧ endedYard.Hears (.closeOrder 5)
    ∧ (endedYard.order 0).map (fun o => (o.tag, o.state.live)) = some (5, false) := by decide +kernel

/-- A START_TRANSFER of both positions of bed 0 in AUTO mode, and one in STACKED mode. -/
def transferArgs (mode : Byte) : TransferArgs := ⟨7, 0, 1, 1, 2, 0, 3, mode, 0, 0, 0, 0, 2, 1, 1, 1⟩

theorem test_witness_TransfersGenerate : (curingYard .live).Hears (.startTransfer (transferArgs 0x10))
    ∧ (curingYard .live).checkTransfer (transferArgs 0x10) = .ok ()
    ∧ (curingYard .live).checkTransfer (transferArgs 0x00) = .ok ()
    ∧ (yard.modProgram 7 fun p => { p with state := .fault .slot }).Hears (.resumeTransfer 7)
    ∧ (yard.program 7).item ≤ (yard.program 7).count ∧ (yard.program 7).count ≤ 24 := by decide +kernel

/-- R141: the first item's piece gets the program's order; with its slot taken the program is in FAULT(SLOT). -/
theorem test_transfer_generates : (((after (.startTransfer (transferArgs 0x00)) (curingYard .live)).program 7).state,
    ((after (.startTransfer { transferArgs 0x10 with startRow := 0 }) (curingYard .live)).program 7).state) =
      (.running, .fault .slot) := by decide +kernel

/-- The yard with program 7 in a state, its order that of slot 0 in a state. -/
def programYard (ps : ProgramState) (st : OrderState) : State :=
  ((withOrder st).modProgram 7 fun p => { p with state := ps, order := some ⟨0, 5⟩ }).modOrder 0 fun o =>
    { o with origin := .program 7 }

theorem test_witness_StopTransferEffects : (programYard .running .queued).Hears (.stopTransfer 7)
    ∧ ((programYard .running .queued).program 7).order = some ⟨0, 5⟩
    ∧ ((programYard .running .queued).order 0).map (·.state.unoffered) = some true
    ∧ ((programYard .running .working).order 0).map (·.state.unoffered) = some false
    ∧ ((programYard (.fault .order) .queued).program 7).state = .fault .order
    ∧ ((programYard .stopping .working).program 7).state = .stopping := by decide +kernel

theorem test_witness_CraneSetupWrites : yard.Hears (.craneSetup 3 0xFFF 0xF0F 3600 0x39)
    ∧ modeTableArg 0x39 = some ⟨.run, .hold, .stop⟩ ∧ (yard.crane 3).state.busy = false
    ∧ (lifting .working .working).reachKeeps 0 (reachArg 0xFFF 0xF0F) = true
    ∧ ModeTable.entry ⟨.run, .hold, .stop⟩ yard.mode = (yard.crane 3).modes.entry yard.mode := by decide +kernel

theorem test_witness_ConfirmLiftSettles : (withOrder .unresolved).Hears (.confirmLiftAtSource 5 1)
    ∧ (withOrder .unresolved).Hears (.confirmLiftAtDestination 5) ∧ (withOrder .unresolved).Hears (.confirmLiftLost 5)
    ∧ ((withOrder .unresolved).order 0).map (fun o => (o.tag, o.state, o.reserved, (withOrder .unresolved).isHooked o)) =
      some (5, .unresolved, some (.stock 0 0 1 0), false)
    ∧ ((withOrder .unresolved).piece 4).isSome = true
    ∧ (hooked.order 0).map (fun o => hooked.isHooked o) = some true := by decide +kernel

theorem test_witness_ReadyAndFault : (hooked.crane 0).state = .working ∧ (hooked.crane 0).order = some ⟨0, 5⟩
    ∧ (hooked.order 0).isSome = true ∧ (hooked.piece 4).isSome = true ∧ (hooked.crane 0).hooked = true
    ∧ (hooked.crane 0).order = some (eventHandle ev) ∧ (yard.crane 0).order = none
    ∧ (hooked.crane 0).order ≠ some (eventHandle ⟨0, 6, 0⟩)
    ∧ ((lifting .offered .offered).crane 0).state = .offered ∧ (lifting .offered .offered).Requeues 0
    ∧ ((lifting .working .working).crane 0).hooked = false ∧ (lifting .working .working).Requeues 0 := by decide +kernel

/-- An offered order of a program in STOPPING. -/
def stoppingOffer : State :=
  (programYard .stopping .offered).modCrane 0 fun r => { r with state := .offered, order := some ⟨0, 5⟩, acceptTimer := 2 }

theorem test_witness_AcceptAndRefuse : (yard.crane 0).order ≠ some (eventHandle ev)
    ∧ ((lifting .offered .offered).crane 0).order = some (eventHandle ev)
    ∧ ((lifting .offered .offered).crane 0).state = .offered
    ∧ ((lifting .offered .offered).order 0).map (fun o => (o.attempts, o.origin)) = some (0, .host)
    ∧ (lifting .offered .offered).Requeues 0 ∧ (stoppingOffer.crane 0).order = some (eventHandle ev)
    ∧ (stoppingOffer.order 0).map (fun o => (o.attempts, o.origin)) = some (0, .program 7)
    ∧ (stoppingOffer.program 7).state = .stopping := by decide +kernel

/-- An offered order that its crane has refused twice. -/
def twiceRefused : State := (lifting .offered .offered).modOrder 0 fun o => { o with attempts := 2 }

theorem test_witness_AcceptAndRefuse_third : (twiceRefused.crane 0).order = some (eventHandle ev)
    ∧ (twiceRefused.crane 0).state = .offered ∧ (twiceRefused.order 0).map (·.attempts) = some 2
    ∧ ((after (.refuse 0 ev) twiceRefused).order 0).map (·.state) = some .failed := by decide +kernel

/-- R144: refused by the crane, the order of a STOPPING program is cancelled. -/
theorem test_stopping_refused : ((after (.refuse 0 ev) stoppingOffer).order 0).map (·.state) = some .cancelled := by
  decide +kernel

/-- With `test_witness_AgreementKept` for the records. -/
theorem test_witness_HookedAndLanded : ((lifting .working .working).crane 0).order = some (eventHandle ev)
    ∧ ((lifting .working .working).crane 0).hooked = false ∧ (hooked.crane 0).hooked = true
    ∧ ((lifting .offered .offered).crane 0).state = .offered ∧ slotKey 0 1 0 ≠ slotKey 0 0 0
    ∧ ((liftFrom (.bed 0 0)).order 0).map (fun o => (o.source, o.reserved, o.crane)) = some (.bed 0 0, some (.bay 1), 0)
    ∧ ((liftFrom (.bay 0)).piece 6).map (·.loc) = some (.bay 0) ∧ ((liftFrom (.bay 0)).crane 0).hooked = false
    ∧ (hooked.order 0).map (fun o => (o.crane, o.reserved, o.claimSound)) = some (0, some (.stock 0 0 1 0), true)
    ∧ ((withOrder .unresolved).crane 0).order ≠ some (eventHandle ev)
    ∧ ((withOrder .unresolved).order 0).map (fun o => (o.tag, o.state, o.crane)) = some (ev.tag.toNat, .unresolved, 0) := by
  decide +kernel

/-- R105, R157: the landed piece occupies the slot its order had reserved. -/
theorem test_landed_occupies : ((after (.landed 0 ev) (lifting .working .working)).block 0).cell 0 1 0 =
    some (.occupied 4) := by decide +kernel

/-- The last second of a plant minute with the cranes at rest: bed 0 at the end of PRESET, bed 1 at its hold limit, zone 4
LIVE and past its gap limit. -/
def restYard : State :=
  { yard with
    minute := 59
    beds := vset (vset yard.beds 0 { bedIn .curing (.cast 6) with phase := .preset }) 1
      { bedIn .curing .void with phase := .hold, phaseMinutes := 9, profile := { hold := 10 } }
    heaters := vmod yard.heaters 4 fun h => { h with setpoint := some 400, output := true }
    zones := vmod yard.zones 4 fun r => { r with state := .live, lastArrival := 700 } }

/-- A second with both timers of the lift protocol about to expire and a retry wait about to end. -/
def timerYard : State :=
  { yard with
    pieces := tput yard.pieces 4 (pieceAt (.stock 0 0 0 0) .released (some ⟨0, 5⟩))
    orders := [(0, orderOf 4 .offered (.bay 1)), (1, orderOf 5 .working (.bay 1)),
      (2, { orderOf 6 .queued (.bay 1) with retry := some 1001 })]
    cranes := #v[{ state := .offered, order := some ⟨0, 5⟩, acceptTimer := 1 },
      { state := .working, order := some ⟨1, 5⟩, liftTimer := 1 },
      { state := .offered, order := some ⟨3, 5⟩, acceptTimer := 1, resent := true },
      { state := .working, order := some ⟨4, 5⟩, liftTimer := 2 }] }

/-- The last second of a plant minute with a bed in each phase that `restYard` leaves out: bed 0 in RAMP with its cap below
the peak, bed 1 in COOL, bed 2 in PRESET, bed 3 in HOLD without a limit, bed 4 in DONE. -/
def minuteYard : State :=
  { yard with
    minute := 59
    beds := #v[{ bedIn .curing .void with phase := .ramp, cap := some 395, profile := { peak := 600 } },
      { bedIn .opened .void with phase := .cool, profile := { cool := 121, finish := 300 } },
      { bedIn .curing .void with phase := .preset, profile := { preset := 5 } },
      { bedIn .curing .void with phase := .hold }, { bedIn .opened .void with phase := .done }, {}, {}, {}, {}, {}, {}, {}]
    heaters := vset (vset yard.heaters 0 { setpoint := some 390, carry := 59 }) 4 { setpoint := some 400, carry := 59 } }

theorem test_witness_minute_bounds : minuteYard.Bounds := by constructor <;> decide +kernel
theorem test_witness_minute_heat : minuteYard.HeatLaw := by constructor <;> decide +kernel

/-- R83: 390 rises by (59 + 350) div 60 = 6, but not past the target of 395, and its carry goes to 0. R86: 400 falls by
(59 + 121) div 60 = 3, with nothing carried. -/
theorem test_minute_steps :
    let t := after .tick minuteYard
    ((t.heater 0).setpoint, (t.heater 0).carry, (t.bed 0).phase) = (some 395, 0, .hold)
      ∧ ((t.heater 4).setpoint, (t.heater 4).carry, (t.bed 1).phase, (t.bed 1).phaseMinutes) = (some 397, 0, .cool, 1)
      ∧ ((t.bed 2).phase, (t.bed 2).phaseMinutes, (t.bed 3).phaseMinutes) = (.preset, 1, 1) := by decide +kernel

theorem test_witness_tick_bounds : restYard.Bounds := by constructor <;> decide +kernel
theorem test_witness_tick_bounds_timers : timerYard.Bounds := by constructor <;> decide +kernel
theorem test_witness_tick_heat : restYard.HeatLaw := by constructor <;> decide +kernel
theorem test_witness_tick_heat_timers : timerYard.HeatLaw := by constructor <;> decide +kernel

theorem test_witness_TickEffects : restYard.NoExpiry ∧ (lifting .working .working).NoExpiry
    ∧ ((after .tick restYard).zone 4).state.trusted = false ∧ (timerYard.crane 3).state = .working
    ∧ 2 ≤ (timerYard.crane 3).liftTimer ∧ minuteYard.minute = 59 ∧ yard.minute ≠ 59
    ∧ ((after .tick minuteYard).bed 3).phase.heats = true ∧ ((after .tick minuteYard).heater 12).setpoint = none
    ∧ (timerYard.modCrane 0 fun r => { r with acceptTimer := 2 }).crane 0 =
      { state := .offered, order := some ⟨0, 5⟩, acceptTimer := 2 } := by decide +kernel

/-- R89: in BLOCK mode a new window of duty 1023 gives 63 on-seconds, of which this tick is the first. -/
theorem test_block_window : ({ mode := .block : Heater }.blockTick 1023) =
    { mode := .block, duty := 1023, window := 1, onLeft := 62, output := true } := by decide

/-- A tick of the yard at rest with zone 4 in good time heats it. -/
theorem test_witness_TickEffects_heat :
    let t := after .tick (restYard.modZone 4 fun r => { r with lastArrival := 900 })
    (t.zone 4).state.trusted = true ∧ (t.bed 1).phase.heats = true ∧ (t.heater 4).setpoint = some 400
      ∧ (t.heater 4).duty = 1023 := by decide +kernel

/-- A named tick that is not due leaves the state as it is (log 3). -/
theorem test_named_not_due : yard.minute ≠ 59 ∧ after .plantMinute yard = yard := by decide +kernel

theorem test_witness_NamedTicks : restYard.minute = 59 ∧ restYard.NoExpiry
    ∧ (restYard.bed 0).phase = .preset ∧ (restYard.bed 0).phaseMinutes = (restYard.bed 0).profile.preset
    ∧ (restYard.bed 1).phase = .hold ∧ (restYard.bed 1).profile.hold ≠ 0
    ∧ (restYard.bed 1).profile.hold ≤ (restYard.bed 1).phaseMinutes + 1
    ∧ (restYard.zone 4).state.trusted = true ∧ (restYard.zone 4).gap < restYard.time + 1 - (restYard.zone 4).lastArrival
    ∧ (timerYard.crane 0).state = .offered ∧ (timerYard.crane 0).acceptTimer = 1 ∧ (timerYard.crane 2).resent = true
    ∧ (timerYard.crane 0).resent = false ∧ timerYard.SoleLift 0 0
    ∧ (timerYard.order 0).map (fun o => (o.tag, o.state)) = some (5, .offered)
    ∧ (timerYard.crane 1).state = .working ∧ (timerYard.crane 1).liftTimer = 1 ∧ timerYard.SoleLift 1 1
    ∧ (timerYard.order 2).map (fun o => (o.state, o.retry)) = some (.queued, some 1001)
    ∧ (∀ c < 4, timerYard.currentSlot c ≠ some 2) ∧ timerYard.time + 1 = 1001 := by decide +kernel

/-- The yard with a QUEUED order whose retry wait ends with the coming second, and its crane IDLE. -/
def retryYard : State :=
  { yard with
    pieces := [(4, pieceAt (.stock 0 0 0 0) .released (some ⟨0, 5⟩))]
    orders := [(0, { orderOf 4 .queued (.bay 1) with reserved := some (.bay 1), retry := some 1001 })] }

theorem test_witness_retry_bounds : retryYard.Bounds := by constructor <;> decide +kernel
theorem test_witness_retry_heat : retryYard.HeatLaw := by constructor <;> decide +kernel
theorem test_witness_NamedTicks_retry : (retryYard.crane 0).state = .idle ∧ retryYard.effMode 0 = .run
    ∧ (retryYard.order 0).map (fun o => (o.crane, o.retry, retryYard.isCandidate 0 { o with retry := none })) =
      some (0, some 1001, true)
    ∧ ((after (.retryWaitEnd 0) retryYard).order 0).map (·.state) = some .offered := by decide +kernel

/-- An UP link with crane 1's STOP on the bus and a LIFT for crane 0 behind it. -/
def busyLink : Link :=
  { state := .up, onBus := some (.control 1 .stop, false)
    slots := #v[{ lift := some ⟨0, 5, .bed 0 0, .bay 1⟩ }, { control := some .stop }, {}, {}] }

/-- Crane 0 with the order of slot 0, its link UP with the LIFT not yet sent. -/
def linked (cs : CraneState) (st : OrderState) : State :=
  { lifting cs st with
    link := {
      state := .up
      slots := #v[{ lift := some ⟨0, 5, .stock 0 0 0 0, .stock 0 0 1 0⟩ }, {}, {}, {}] } }

/-- For every statement that says what a step leaves in the instruction slots. -/
theorem test_witness_posts : (linked .offered .offered).link.state = .up
    ∧ ({ yard with link := busyLink } : State).link.onBus = some (.control 1 .stop, false)
    ∧ (TxMessage.control 1 .stop).ident = 0x0C0 + 1 ∧ yard.link.state ≠ .up ∧ vget yard.link.slots 0 = {} := by
  decide +kernel

/-- R151, R194: a READY places the control message of the mode and takes the LIFT of the offer away; the returned order is
selected again, and its LIFT placed. -/
theorem test_ready_posts :
    let t := after (.ready 0 ev) ({ linked .offered .offered with mode := .cureOnly } : State)
    vget t.link.slots 0 = { control := some .hold } ∧ (t.order 0).map (·.state) = some .queued
      ∧ (vget (after (.ready 0 ev) (linked .offered .offered)).link.slots 0).lift =
        some ⟨0, 5, .stock 0 0 0 0, .stock 0 0 1 0⟩ := by decide +kernel

/-- R152, R160: under STOP an OFFERED order returns to QUEUED, and a WORKING lift becomes UNRESOLVED. -/
theorem test_stop_rows :
    ((after (.setMode 3) (lifting .offered .offered)).order 0).map (fun o => (o.state, o.attempts)) = some (.queued, 0)
      ∧ ((after .yardStopAsserted hooked).order 0).map (·.state) = some .unresolved
      ∧ ((after .yardStopAsserted hooked).piece 4).map (·.uncertain) = some true := by decide +kernel

theorem test_witness_SetModeEffects_rows : (lifting .offered .offered).yardStop = false
    ∧ (lifting .offered .offered).mode ≠ .standby ∧ ((lifting .offered .offered).crane 0).order = some ⟨0, 5⟩
    ∧ ((lifting .offered .offered).crane 0).state = .offered ∧ (lifting .offered .offered).SoleLift 0 0
    ∧ ((lifting .offered .offered).order 0).map (·.crane) = some 0 ∧ (lifting .offered .offered).Requeues 0
    ∧ (after (.setMode 3) (lifting .offered .offered)).effMode 0 = .stop
    ∧ (lifting .offered .offered).effMode 0 = .run ∧ (lifting .working .working).SoleLift 0 0
    ∧ (after (.setMode 2) (lifting .working .working)).effMode 0 = .hold
    ∧ ((lifting .working .working).piece 4).isSome = true ∧ (lifting .working .working).effMode 0 = .run := by
  decide +kernel

theorem test_witness_YardStopEdges : yard.yardStop = false ∧ (lifting .working .working).effMode 0 ≠ .stop
    ∧ (lifting .working .working).SoleLift 0 0 ∧ ({ yard with yardStop := true } : State).yardStop = true
    ∧ (after .yardStopAsserted yard).yardStop = true ∧ ((after .yardStopAsserted yard).crane 0).state = .stopped
    ∧ (after .yardStopReleased (after .yardStopAsserted yard)).effMode 0 ≠ .stop := by decide +kernel

theorem test_witness_LinkAndLineEvents : ({ yard with link := busyLink } : State).link.state = .up
    ∧ busyLink.onBus = some (.control 1 .stop, false) ∧ (0x333 : BitVec 29).toNat = 0x300 + (51 : Fin 52).val
    ∧ (0x183 : BitVec 29).toNat = 0x180 + (3 : Fin 4).val ∧ State.reset.link.state ≠ .up
    ∧ 6 < (7 : Byte).toNat ∧ ¬ (0x334 : BitVec 29).toNat < 0x334 ∧ ¬ (0x184 : BitVec 29).toNat < 0x184
    ∧ ¬ 0x180 ≤ (0x17F : BitVec 29).toNat ∧ ([5, 0, 5] : List Byte).length ≠ 4
    ∧ (busyLink.outdate 0x0C1).onBus = some (.control 1 .stop, true)
    ∧ ({ busyLink with state := .down, wait := .busOff } : Link).wait = .busOff
    ∧ State.reset.line.shifting = some (Vector.replicate 48 false) := by decide +kernel

/-- R195: when the STOP is acknowledged it leaves its slot, and the LIFT is offered. -/
theorem test_acknowledged_offers_next : (after .transmitAcknowledged { yard with link := busyLink }).link.onBus =
    some (.lift 0 ⟨0, 5, .bed 0 0, .bay 1⟩, false) := by decide +kernel

/-- R194: acknowledged with a newer control in its slot, the STOP counts as sent, and the newer message is offered. -/
theorem test_acknowledged_stale : (after .transmitAcknowledged
    { yard with link := busyLink.placeControl 1 .hold }).link.onBus = some (.control 1 .hold, false) := by decide +kernel

/-- R193: a crane frame with event code 5 lands the piece, and a remote frame or one of code 7 leaves the yard as it is. -/
theorem test_crane_frames :
    let s : State := { lifting .working .working with link := { state := .up } }
    after (.frameReceived ⟨false, false, 0x180, [5, 0, 5, 3]⟩) s = after (.landed 0 ev) s
      ∧ after (.frameReceived ⟨false, true, 0x180, [5, 0, 5, 3]⟩) s = s
      ∧ after (.frameReceived ⟨false, false, 0x180, [7, 0, 5, 3]⟩) s = s := by decide +kernel

end Sys2Proof.Tests
end

/-! SUPPORT. HOLD_PIECE and RELEASE_PIECE: how a command that names one piece is refused and carried out, said once for
every such command; what each check of the two commands stops; and their statements. -/

namespace Sys2Proof.Machine

/-! ### A command the port answers (R186) -/

theorem hostStep_of_hears {s : State} {c : Instr} (h : s.Hears c) (kind : Nat) (effect : State → State × Reply) :
    hostStep c kind effect s = .next ((effect s).1.endExecution kind (effect s).2) := by
  obtain ⟨takes, notCarried⟩ := h
  simp [hostStep, takes, notCarried]

theorem checked_of_error {α : Type} {check : State → Except Reason α} {act : α → State → State × Reply} {s : State}
    {r : Reason} (h : check s = .error r) : checked check act s = (s, .failed r) := by
  rw [checked, h]

theorem checked_of_ok {α : Type} {check : State → Except Reason α} {act : α → State → State × Reply} {s : State} {a : α}
    (h : check s = .ok a) : checked check act s = act a s := by
  rw [checked, h]

/-! ### A piece named by its id (R2) -/

section
variable {s : State} {id : IdBits} {p : Piece} {r : Reason}

theorem findPiece_of_zero (hid : id = 0) : s.findPiece id = .error .range := by simp [State.findPiece, hid]

theorem findPiece_of_absent (hid : id ≠ 0) (hp : s.piece id.toNat = none) : s.findPiece id = .error .notFound := by
  have nonzero : id.toNat ≠ 0 := BitVec.toNat_ne_iff_ne.mpr hid
  simp [State.findPiece, nonzero, hp]

theorem findPiece_of_live (hid : id ≠ 0) (hp : s.piece id.toNat = some p) : s.findPiece id = .ok p := by
  have nonzero : id.toNat ≠ 0 := BitVec.toNat_ne_iff_ne.mpr hid
  simp [State.findPiece, nonzero, hp]

theorem findPieceWith_of_error {checks : Piece → List (Bool × Reason)} (h : s.findPiece id = .error r) :
    s.findPieceWith id checks = .error r := by
  rw [State.findPieceWith, h]

theorem findPieceWith_of_failing {checks : Piece → List (Bool × Reason)} (h : s.findPiece id = .ok p)
    (hc : firstFailing (checks p) = some r) : s.findPieceWith id checks = .error r := by
  simp [State.findPieceWith, h, guardAll, hc, Except.map]

theorem findPieceWith_of_passing {checks : Piece → List (Bool × Reason)} (h : s.findPiece id = .ok p)
    (hc : firstFailing (checks p) = none) : s.findPieceWith id checks = .ok p := by
  simp [State.findPieceWith, h, guardAll, hc, Except.map]

/-! ### A command on one piece: refused, or carried out on the piece found -/

variable {c : Instr} {kind : Nat} {checks : State → Piece → List (Bool × Reason)} {act : Piece → State → State × Reply}

theorem hostStep_of_refused (h : s.Hears c) (hc : s.findPieceWith id (checks s) = .error r) :
    hostStep c kind (checked (fun s => s.findPieceWith id (checks s)) act) s =
      .next (s.endExecution kind (.failed r)) := by
  rw [hostStep_of_hears h, checked_of_error hc]

theorem hostStep_of_zero_id (h : s.Hears c) (hid : id = 0) :
    hostStep c kind (checked (fun s => s.findPieceWith id (checks s)) act) s =
      .next (s.endExecution kind (.failed .range)) :=
  hostStep_of_refused h (findPieceWith_of_error (findPiece_of_zero hid))

theorem hostStep_of_absent_piece (h : s.Hears c) (hid : id ≠ 0) (hp : s.piece id.toNat = none) :
    hostStep c kind (checked (fun s => s.findPieceWith id (checks s)) act) s =
      .next (s.endExecution kind (.failed .notFound)) :=
  hostStep_of_refused h (findPieceWith_of_error (findPiece_of_absent hid hp))

theorem hostStep_of_failing_check (h : s.Hears c) (hid : id ≠ 0) (hp : s.piece id.toNat = some p)
    (hc : firstFailing (checks s p) = some r) :
    hostStep c kind (checked (fun s => s.findPieceWith id (checks s)) act) s =
      .next (s.endExecution kind (.failed r)) :=
  hostStep_of_refused h (findPieceWith_of_failing (findPiece_of_live hid hp) hc)

theorem hostStep_of_passing_checks (h : s.Hears c) (hid : id ≠ 0) (hp : s.piece id.toNat = some p)
    (hc : firstFailing (checks s p) = none) :
    hostStep c kind (checked (fun s => s.findPieceWith id (checks s)) act) s =
      .next ((act p s).1.endExecution kind (act p s).2) := by
  have found : s.findPieceWith id (checks s) = .ok p := findPieceWith_of_passing (findPiece_of_live hid hp) hc
  rw [hostStep_of_hears h, checked_of_ok found]

end

/-! ### Writing one piece -/

theorem State.modPiece_eq (s : State) (i : Nat) (f : Piece → Piece) :
    s.modPiece i f = { s with pieces := (s.modPiece i f).pieces } := rfl

theorem State.piece_modPiece_of_live {s : State} {i : Nat} {p : Piece} (f : Piece → Piece) (hp : s.piece i = some p) :
    (s.modPiece i f).piece i = some (f p) := by
  rw [State.piece_modPiece_self, hp, Option.map_some]

theorem State.piece_modPiece_ne (s : State) {i j : Nat} (f : Piece → Piece) (h : j ≠ i) :
    (s.modPiece i f).piece j = s.piece j := by
  rw [State.piece_modPiece, if_neg h]

/-! ### HOLD_PIECE (R166) -/

@[simp] theorem Quality.held'_opened : Quality.opened.held' = .held .host := rfl
@[simp] theorem Quality.held'_held (cause : HoldCause) : (Quality.held cause).held' = .held cause := rfl

theorem Quality.word_held (cause : HoldCause) :
    (Quality.held cause).word = packed [(0, 2, 1), (8, 2, if cause = .host then 1 else 2)] := by
  cases cause <;> rfl

section
variable {s : State} {id : IdBits} {p : Piece}

theorem exec_holdPiece_of_released (h : s.Hears (.holdPiece id)) (hid : id ≠ 0) (hp : s.piece id.toNat = some p)
    (hq : p.quality = .released) : exec (.holdPiece id) s = .next (s.endExecution 0x1E (.failed .locked)) :=
  hostStep_of_failing_check h hid hp (by simp [firstFailing, hq])

theorem exec_holdPiece_of_unreleased (h : s.Hears (.holdPiece id)) (hid : id ≠ 0) (hp : s.piece id.toNat = some p)
    (hq : p.quality ≠ .released) :
    exec (.holdPiece id) s =
      .next ((s.modPiece id.toNat fun q => { q with quality := p.quality.held' }).endExecution 0x1E
        (.done [p.quality.held'.word])) :=
  hostStep_of_passing_checks h hid hp (by simp [firstFailing, hq])

end

/-- Settles O43, by the quality of the piece found: a RELEASED piece fails the one check after the id's, and any other
takes the quality `Quality.held'`. -/
theorem holdPieceActs : Obligations.HoldPieceActs := by
  intro s id h
  refine ⟨hostStep_of_zero_id h, hostStep_of_absent_piece h, fun p hid hp => ⟨exec_holdPiece_of_released h hid hp, ?_, ?_⟩⟩
  · intro hq
    have run := exec_holdPiece_of_unreleased h hid hp (by simp [hq])
    rw [hq, Quality.held'_opened, Quality.word_held] at run
    exact ⟨_, run, s.modPiece_eq _ _, State.piece_modPiece_of_live _ hp, fun j => s.piece_modPiece_ne _⟩
  · intro cause hq
    have run := exec_holdPiece_of_unreleased h hid hp (by simp [hq])
    rw [hq, Quality.held'_held, Quality.word_held] at run
    refine ⟨_, run, s.modPiece_eq _ _, fun j => ?_⟩
    by_cases hj : j = id.toNat
    · rw [hj, State.piece_modPiece_of_live _ hp, hp, ← hq]
    · exact s.piece_modPiece_ne _ hj

/-! ### RELEASE_PIECE (R168, R169) -/

theorem Loc.isHook_iff (l : Loc) : l.isHook = true ↔ ∃ c, l = .hook c := by cases l <;> simp [Loc.isHook]

theorem Loc.isHook_eq_false {l : Loc} (h : ∀ c, l ≠ .hook c) : l.isHook = false := by
  rw [Bool.eq_false_iff, Ne, Loc.isHook_iff]
  exact fun ⟨c, hc⟩ => h c hc

section
variable {s : State} {p : Piece}

theorem releaseChecks_of_released (hq : p.quality = .released) : firstFailing (s.releaseChecks p) = some .locked := by
  simp [State.releaseChecks, firstFailing, hq]

theorem releaseChecks_of_held {cause : HoldCause} (hq : p.quality = .held cause) :
    firstFailing (s.releaseChecks p) = some .wrongState := by
  simp [State.releaseChecks, firstFailing, hq]

theorem releaseChecks_of_not_liftable (hq : p.quality = .opened) (hs : p.stage ≠ .liftable) :
    firstFailing (s.releaseChecks p) = some .wrongState := by
  simp [State.releaseChecks, firstFailing, hq, hs]

theorem releaseChecks_of_hooked (hq : p.quality = .opened) (hs : p.stage = .liftable) (hl : ∃ c, p.loc = .hook c) :
    firstFailing (s.releaseChecks p) = some .wrongState := by
  simp [State.releaseChecks, firstFailing, hq, hs, p.loc.isHook_iff.mpr hl]

theorem releaseChecks_of_weak (hq : p.quality = .opened) (hs : p.stage = .liftable) (hl : ∀ c, p.loc ≠ .hook c)
    (weak : p.strength < (s.mix p.mix).dispatch) : firstFailing (s.releaseChecks p) = some .strength := by
  simp [State.releaseChecks, firstFailing, hq, hs, Loc.isHook_eq_false hl, Nat.not_le.mpr weak]

theorem releaseChecks_of_strong (hq : p.quality = .opened) (hs : p.stage = .liftable) (hl : ∀ c, p.loc ≠ .hook c)
    (strong : (s.mix p.mix).dispatch ≤ p.strength) : firstFailing (s.releaseChecks p) = none := by
  simp [State.releaseChecks, firstFailing, hq, hs, Loc.isHook_eq_false hl, strong]

variable {id : IdBits}

theorem exec_releasePiece_of_failing {r : Reason} (h : s.Hears (.releasePiece id)) (hid : id ≠ 0)
    (hp : s.piece id.toNat = some p) (hc : firstFailing (s.releaseChecks p) = some r) :
    exec (.releasePiece id) s = .next (s.endExecution 0x20 (.failed r)) :=
  hostStep_of_failing_check h hid hp hc

theorem exec_releasePiece_of_passing (h : s.Hears (.releasePiece id)) (hid : id ≠ 0) (hp : s.piece id.toNat = some p)
    (hc : firstFailing (s.releaseChecks p) = none) :
    exec (.releasePiece id) s =
      .next ((s.modPiece id.toNat fun q => { q with quality := .released, releaseTime := some s.time }).endExecution 0x20
        (.done [fullWord (s.time / 65536), fullWord s.time, fullWord p.strength])) :=
  hostStep_of_passing_checks h hid hp hc

end

/-- Settles O45: each refusal by the first check that fails, and the release by all seven passing. -/
theorem releasePieceActs : Obligations.ReleasePieceActs := by
  intro s id h
  refine ⟨hostStep_of_zero_id h, hostStep_of_absent_piece h, fun p hid hp => ?_⟩
  have refused : ∀ {r : Reason}, firstFailing (s.releaseChecks p) = some r →
      exec (.releasePiece id) s = .next (s.endExecution 0x20 (.failed r)) := exec_releasePiece_of_failing h hid hp
  refine ⟨fun hq => refused (releaseChecks_of_released hq), fun _ hq => refused (releaseChecks_of_held hq),
    fun hq hs => refused (releaseChecks_of_not_liftable hq hs),
    fun hq hs hl => refused (releaseChecks_of_hooked hq hs hl),
    fun hq hs hl weak => refused (releaseChecks_of_weak hq hs hl weak), fun hq hs hl strong => ?_⟩
  exact ⟨_, exec_releasePiece_of_passing h hid hp (releaseChecks_of_strong hq hs hl strong),
    s.modPiece_eq _ _, fun j => s.piece_modPiece_ne _, State.piece_modPiece_of_live _ hp⟩

end Sys2Proof.Machine

/-! SUPPORT. IDENT: how a command that only reads is answered, the plant's words written out, and the statement. -/

namespace Sys2Proof.Machine

/-- The state that a reading command answers from is the state its execution ends in, whatever it answers. -/
theorem hostStep_readOnly_of_hears {s : State} {c : Instr} (h : s.Hears c) (kind : Nat) (answer : State → Reply) :
    hostStep c kind (readOnly answer) s = .next (s.endExecution kind (answer s)) :=
  hostStep_of_hears h kind (readOnly answer)

/-! ### IDENT (R191) -/

/-- The words that SET_MODE and SET_TIME answer too (section 11.5.4). -/
theorem State.plantWords_eq (s : State) :
    s.plantWords =
      [packed [(0, 2, s.mode.code), (8, 1, bit s.yardStop)], fullWord (s.time / 65536), fullWord s.time] := rfl

theorem exec_ident_of_hears {s : State} (h : s.Hears .ident) :
    exec .ident s = .next (s.endExecution 0x01 (.done ([fullWord Config.partCode, fullWord Config.revisionCode]
      ++ s.plantWords ++ [packed [(0, 2, s.link.state.code), (4, 2, s.link.rate.code)]]))) :=
  hostStep_readOnly_of_hears h 0x01 _

/-- Settles O19: IDENT only reads, so being heard is all it takes to be answered, from the state as it stands. -/
theorem identAnswers : Obligations.IdentAnswers := by
  intro s heard
  have run := exec_ident_of_hears heard
  rw [s.plantWords_eq] at run
  exact run

end Sys2Proof.Machine
